-- ==== Sys2Proof/Word.lean ====
section
/-! DEFINITION. The bit-vector types of the state elements, by the widths of R7, R33 and R34. -/

namespace Sys2Proof

/-- One byte of memory (R74). -/
abbrev Byte := BitVec 8

/-- A 64-bit register, MSR value, segment base or linear address (R7). -/
abbrev Word := BitVec 64

/-- The low or the high half of a 64-bit register: EIP, ESP, bits 31:0 of an MSR (R7). -/
abbrev Half := BitVec 32

/-- A segment selector (R7). -/
abbrev Selector := BitVec 16

/-- A privilege level, 0 the most privileged (R36, R173). PRESUMED width (log 25). -/
abbrev Level := BitVec 2

/-- A segment limit (R7, R33). -/
abbrev Limit := BitVec 20

/-- A segment type (R33, R35). PRESUMED width (log 21). -/
abbrev SegmentType := BitVec 4

end Sys2Proof
end

