-- ==== Sys2Proof/Config.lean ====
section
/-! DEFINITION. What the implementation fixes (R6), as plain data, and the free values of `draw`.
The two CET predicates, which take the state, stand in Sys2Proof/Machine/Cet.lean. -/

namespace Sys2Proof

/-- The parameters of R6 that are data, fixed for a run. A statement about every state is a statement
about every configuration, since `Machine.State` carries this record and no step changes it (log 18). -/
structure Config where
  /-- `N`, the CPU's maximum linear-address width; 1 to 64 by R6. -/
  linearWidth : Nat
  /-- The CPUID SEP feature flag (R40, R145). -/
  cpuidSep : Bool
  /-- The processor's family (R146). -/
  family : Nat
  /-- The processor's model (R146). -/
  model : Nat
  /-- The processor's stepping (R146). -/
  stepping : Nat
  /-- Whether the processor has CET at all (R6, D13). -/
  cetPresent : Bool
  /-- Whether IA-32e mode exists on this processor (R6, D2). -/
  intel64 : Bool
  /-- `Translate` (R6, R79) as the list of the linear addresses it does not leave as they are, with the
  physical address each is taken to, or `none` where translating it faults. The empty list is the
  identity, the default of D11. DESIGN CHOICE (log 16). -/
  translation : List (Nat × Option Nat)
  deriving DecidableEq, Repr

/-- The upper half of a stack or instruction pointer loaded outside IA-32e mode: `draw(32)` of R21, R22.
A FREE VALUE: it has no body, so nothing can be proved of its value (log 6). -/
opaque Config.freeHalf : Nat → Half

end Sys2Proof
end

