-- ==== Sys2Proof/Syntax.lean ====
section
/-! DEFINITION. The instructions of spec/opcode_table.json, one constructor per row. -/

namespace Sys2Proof

/-- Neither row has an operand (R92: Op/En ZO). -/
inductive Instr where
  /-- `0F 34`, row SYSENTER (R90, R110). -/
  | sysenter
  /-- `F0 0F 34`, row LOCK_SYSENTER (R93, R111). -/
  | lockSysenter
  deriving DecidableEq, Repr

end Sys2Proof
end

