-- ==== Sys2Proof/WellFormed.lean ====
section
/-! DEFINITION. When an instruction and a configuration are well formed. -/

namespace Sys2Proof

/-- Neither instruction has an operand, so there is nothing to check: every term is well formed (R92). -/
def Instr.wf : Instr → Bool
  | .sysenter => true
  | .lockSysenter => true

/-- The canonical form of `Config.translation`: linear addresses of 64 bits, strictly rising, none listed
that is taken to itself. -/
abbrev Config.translationWf (t : List (Nat × Option Nat)) : Prop :=
  t.Pairwise (fun p q => p.1 < q.1) ∧ ∀ p ∈ t, p.1 < 2 ^ 64 ∧ p.2 ≠ some p.1

/-- R6: `N` is at least 1 and at most 64; and the translation is in its canonical form. -/
abbrev Config.wf (c : Config) : Prop :=
  (1 ≤ c.linearWidth ∧ c.linearWidth ≤ 64) ∧ Config.translationWf c.translation

end Sys2Proof
end

