-- ==== Sys2Proof/Machine/State.lean ====
section
/-! DEFINITION. The state of the logical processor (R20), why a step stops, and the state after reset. -/

namespace Sys2Proof.Machine

/-- RFLAGS: the two bits the source names (R24), and every other bit, whose places and number it does not
give (N8, N41), as one number that no instruction here reads or writes (log 21). -/
structure RFlags where
  vm : Bool
  if_ : Bool
  other : Nat
  deriving DecidableEq, Repr

/-- CR0: the one bit the source names (R25), and the rest of the register (R124; log 21). -/
structure Cr0 where
  pe : Bool
  other : Nat
  deriving DecidableEq, Repr

/-- IA32_EFER: the one bit the source names (R26), and the rest of the register (R124; log 21). -/
structure Efer where
  lma : Bool
  other : Nat
  deriving DecidableEq, Repr

/-- The indirect-branch tracker (R32): an open enumeration of which the source names one value. The
others are numbered without meaning (N37; log 22). -/
inductive Tracker where
  | waitForEndbranch
  | other (value : Nat)
  deriving DecidableEq, Repr

/-- IA32_S_CET: the two fields the source names (R32), and the other fields (log 21). -/
structure SCet where
  tracker : Tracker
  suppress : Bool
  other : Nat
  deriving DecidableEq, Repr

/-- CS: the selector and the descriptor cache (R33). -/
structure CodeSegment where
  selector : Selector
  base : Word
  limit : Limit
  type : SegmentType
  s : Bool
  dpl : Level
  p : Bool
  l : Bool
  d : Bool
  g : Bool
  deriving DecidableEq, Repr

/-- SS: the selector and the descriptor cache (R34). -/
structure StackSegment where
  selector : Selector
  base : Word
  limit : Limit
  type : SegmentType
  s : Bool
  dpl : Level
  p : Bool
  b : Bool
  g : Bool
  deriving DecidableEq, Repr

/-- Memory: the bytes that have a value, at strictly rising physical addresses. An address that is not
listed has no value (R74; log 17). -/
abbrev Memory := List Host.Cell

/-- The record of R20, with the configuration of R6 beside it. -/
structure State where
  /-- RIP; EIP is its bits 31:0 (R21). -/
  rip : Word
  /-- RSP; ESP is its bits 31:0 (R22). -/
  rsp : Word
  /-- EDX (R23). -/
  edx : Half
  rflags : RFlags
  cr0 : Cr0
  efer : Efer
  /-- IA32_SYSENTER_CS, MSR 174H (R27). -/
  sysenterCs : Word
  /-- IA32_SYSENTER_ESP, MSR 175H (R28). -/
  sysenterEsp : Word
  /-- IA32_SYSENTER_EIP, MSR 176H (R29). -/
  sysenterEip : Word
  /-- IA32_PL3_SSP (R31). -/
  pl3Ssp : Word
  /-- IA32_S_CET (R32). -/
  sCet : SCet
  cs : CodeSegment
  ss : StackSegment
  /-- The current privilege level, a field of its own (R36). -/
  cpl : Level
  /-- The shadow-stack pointer (R37). -/
  ssp : Word
  /-- General registers other than RSP and EDX and segment registers other than CS and SS, which the
  source counts but does not name (R23, R124; N13, N14): any names, any numbers (log 21). -/
  otherRegisters : List (String × Nat)
  /-- Instruction memory, the descriptor tables and both stacks (R20, R39, R43). -/
  memory : Memory
  /-- The processor, fixed for a run (R6, R40; log 18). -/
  config : Config
  /-- The MODEL's own field: how many free values have been drawn (log 6). -/
  draws : Nat
  deriving DecidableEq, Repr

/-- Why the chip's instruction ends in an exception (R160): the step's outcome, with no state changed. -/
inductive Fault where
  /-- #GP with its error code. Raised by SYSENTER in real-address mode and on a null selector in
  IA32_SYSENTER_CS, with error code 0 (R161, R166). Safe: the model stops where the chip delivers the
  exception, which the spec does not describe (log 4). -/
  | generalProtection (errorCode : Nat)
  /-- #UD, no error code. Raised by LOCK SYSENTER, always (R162). Safe, as above (log 4). -/
  | invalidOpcode
  deriving DecidableEq, Repr

/-- Why the model gives a step no meaning. Each is safe: a claim may become unprovable, none false. -/
inductive Refusal where
  /-- An instruction whose arm has no meaning yet. Answered by no arm of this model. -/
  | notModelled (mnemonic : String)
  /-- The processor does not have the instruction; the source does not say what its bytes do there
  (R95, R127, D14). Raised by SYSENTER and LOCK SYSENTER (log 11). -/
  | unsupported
  /-- IA32_SYSENTER_ESP or IA32_SYSENTER_EIP is not canonical, which is no state of the hardware (R28,
  R29, D8). Raised by SYSENTER (log 10). -/
  | noncanonicalMsr
  /-- CS.Selector + 8 does not fit 16 bits, where the spec refuses the state (R77, R126, R127, D6). Raised
  by SYSENTER (log 7). -/
  | selectorOverflow
  /-- Virtual-8086 mode on a processor with CET, where the spec refuses the state (R119, R127, D20). Raised
  by SYSENTER (log 8). -/
  | v86Cet
  /-- The bytes at the instruction pointer are neither `0F 34` nor `F0 0F 34` (R97). Raised by the fetch
  (log 12). -/
  | notShown
  /-- A byte the fetch needs has no value, or its address does not translate (R74). Raised by the fetch
  (log 17). -/
  | fetchUnmodelled
  deriving DecidableEq, Repr

/-- The processor of `State.reset`. DESIGN CHOICE: R6 leaves every field open (log 18). -/
def Config.reset : Config where
  linearWidth := 48
  cpuidSep := true
  family := 6
  model := 15
  stepping := 11
  cetPresent := false
  intel64 := true
  translation := []

/-- The state after reset. The source gives no value (R44, R190): each is PRESUMED, the IA-32 family's,
those of 93_implementation_defined.md G15 where it lists them (log 19). -/
def State.reset : State where
  rip := 0xFFF0#64
  rsp := 0#64
  edx := 0x6FB#32
  rflags := { vm := false, if_ := false, other := 2 }
  cr0 := { pe := false, other := 0x60000010 }
  efer := { lma := false, other := 0 }
  sysenterCs := 0#64
  sysenterEsp := 0#64
  sysenterEip := 0#64
  pl3Ssp := 0#64
  sCet := { tracker := .other 0, suppress := false, other := 0 }
  cs := { selector := 0xF000#16, base := 0xFFFF0000#64, limit := 0xFFFF#20, type := 3#4, s := true
          dpl := 0#2, p := true, l := false, d := false, g := false }
  ss := { selector := 0#16, base := 0#64, limit := 0xFFFF#20, type := 3#4, s := true
          dpl := 0#2, p := true, b := false, g := false }
  cpl := 0#2
  ssp := 0#64
  otherRegisters := []
  memory := []
  config := Config.reset
  draws := 0

end Sys2Proof.Machine
end

