-- ==== Sys2Proof/Machine/Ops.lean ====
section
/-! DEFINITION. The named operations over memory, translation and the SYSENTER MSRs, and raising an
exception. -/

namespace Sys2Proof.Machine

/-- The value listed at a key, if any. -/
def Cells.get {α : Type} : List (Nat × α) → Nat → Option α
  | [], _ => none
  | (k, v) :: rest, a => if a = k then some v else Cells.get rest a

/-- Lists a value at a key, in the place the rising order gives it. -/
def Cells.set {α : Type} : List (Nat × α) → Nat → α → List (Nat × α)
  | [], a, v => [(a, v)]
  | (k, w) :: rest, a, v =>
    if a < k then (a, v) :: (k, w) :: rest
    else if a = k then (a, v) :: rest
    else (k, w) :: Cells.set rest a v

/-- Takes a key off the list. -/
def Cells.erase {α : Type} (cells : List (Nat × α)) (a : Nat) : List (Nat × α) :=
  cells.filter fun p => p.1 ≠ a

/-- The byte at a physical address; an unlisted address has none (R74; log 17). -/
def Memory.read (m : Memory) (a : Nat) : Option Byte := Cells.get m a

/-- Memory with a byte placed. No instruction stores (R70); this serves the load of a program. -/
def Memory.write (m : Memory) (a : Nat) (b : Byte) : Memory := Cells.set m a b

/-- The canonical form of memory: physical addresses strictly rising. -/
abbrev Memory.wf (m : Memory) : Prop := m.Pairwise fun p q => p.1 < q.1

/-- `Translate` of R6: the physical address of a linear address, or nothing where it faults. -/
def translateLinear (c : Config) (la : Word) : Option Nat :=
  match Cells.get c.translation la.toNat with
  | some target => target
  | none => some la.toNat

/-- The byte a fetch reads at a linear address: `MemRead(Translate(la), 1)` of R74. -/
def readCode (s : State) (la : Word) : Option Byte :=
  match translateLinear s.config la with
  | some pa => Memory.read s.memory pa
  | none => none

/-- The bytes a fetch reads from a linear address on, the next address counted in 64 bits. DEDUCED: R74
adds 1 to a 64-bit linear address and states no width (log 15). -/
def readCodeBytes (s : State) : Word → Nat → Option (List Byte)
  | _, 0 => some []
  | la, n + 1 =>
    match readCode s la with
    | none => none
    | some b =>
      match readCodeBytes s (la + 1#64) n with
      | none => none
      | some bs => some (b :: bs)

/-- The state with bytes loaded from a linear address on, each such address translated to itself. It
stands for the load of a program from outside the machine (log 30). -/
def placeCode : Word → List Byte → State → State
  | _, [], s => s
  | la, b :: bs, s =>
    placeCode (la + 1#64) bs
      { s with
        memory := Memory.write s.memory la.toNat b
        config := { s.config with translation := Cells.erase s.config.translation la.toNat } }

/-- The MSR number space, as far as the source gives it: 174H, 175H and 176H (R27 to R30, R43). -/
def sysenterMsr (s : State) (address : Nat) : Option Word :=
  if address = 0x174 then some s.sysenterCs
  else if address = 0x175 then some s.sysenterEsp
  else if address = 0x176 then some s.sysenterEip
  else none

/-- Taking an exception: `raise E(info)` of R160. The outcome is the fault, and no element of the state
is changed by it: the state the instruction started from stands. Delivery and return are not in the spec
(R5, R171, D3; log 4). -/
def raise (fault : Fault) : Host.Outcome State Fault Refusal := .fault fault

end Sys2Proof.Machine
end

