-- ==== Sys2Proof/Machine/Mode.lean ====
section
/-! DEFINITION. The operating mode, a function of the state (R42). -/

namespace Sys2Proof.Machine

/-- The five modes of the entry's exception headings (R42). -/
inductive Mode where
  | realAddress
  | protectedMode
  | virtual8086
  | compatibility
  | mode64
  deriving DecidableEq, Repr

/-- IA32_EFER.LMA, constantly 0 where the processor has no IA-32e mode (R6, R26; log 26). -/
def State.lma (s : State) : Bool := s.config.intel64 && s.efer.lma

/-- `InIA32e` of R42. -/
def State.inIa32e (s : State) : Bool := s.cr0.pe && s.lma

/-- `Mode` of R42. PRESUMED beyond the three facts the source fixes (D26; log 24). -/
def State.mode (s : State) : Mode :=
  if s.cr0.pe = false then .realAddress
  else if s.lma = true then (if s.cs.l = true then .mode64 else .compatibility)
  else if s.rflags.vm = true then .virtual8086
  else .protectedMode

end Sys2Proof.Machine
end

