-- ==== Sys2Proof/Machine/Operands.lean ====
section
/-! DEFINITION. The implicit operands of SYSENTER and the arithmetic on them (R41, R77, R126), and the
support check (R146). -/

namespace Sys2Proof.Machine

/-- `LA_adjust(v)`: `sext_64(v[N-1:0])` (R41). -/
def laAdjust (n : Nat) (v : Word) : Word := (v.setWidth n).signExtend 64

/-- A value is canonical when `LA_adjust` leaves it (R41). DEDUCED (log 36). -/
def canonical (n : Nat) (v : Word) : Bool := decide (laAdjust n v = v)

/-- Both pointer MSRs are canonical, as WRMSR keeps them (R28, R29). -/
def msrsCanonical (s : State) : Bool :=
  canonical s.config.linearWidth s.sysenterEsp && canonical s.config.linearWidth s.sysenterEip

/-- `IA32_SYSENTER_CS[15:2] = 0`: the MSR holds a null selector (R77, R161). -/
def nullSelector (cs : Word) : Bool := decide (cs.extractLsb' 2 14 = 0#14)

/-- `IA32_SYSENTER_CS[15:0] AND FFFCH` (R126 a). -/
def codeSelector (cs : Word) : Selector := cs.setWidth 16 &&& 0xFFFC#16

/-- The true sum of the selector and 8 fits 16 bits (R126 b): a masked selector is at most FFF4H (R110). -/
def selectorFits (sel : Selector) : Bool := decide (sel.toNat + 8 < 2 ^ 16)

/-- SS.Selector: the code selector plus 8 (R77, R126 b). SYSENTER asks for it only where the sum fits. -/
def stackSelector (sel : Selector) : Selector := sel + 8#16

/-- A pointer loaded outside IA-32e mode: bits 31:0 of the MSR under a free upper half (R21, R22; log 6). -/
def lowHalfLoaded (msr : Word) (draws : Nat) : Word := Config.freeHalf draws ++ msr.setWidth 32

/-- `SysenterSupported` (R146). -/
def sysenterSupported (c : Config) : Bool :=
  c.cpuidSep && !(decide (c.family = 6) && decide (c.model < 3) && decide (c.stepping < 3))

end Sys2Proof.Machine
end

