-- ==== Sys2Proof/Machine/Flags.lean ====
section
/-! DEFINITION. The one flag computation of the spec: SYSENTER clears VM and IF (R24). -/

namespace Sys2Proof.Machine

/-- Part C of R110: RFLAGS.VM and RFLAGS.IF become 0, every other bit stays (R24). -/
def clearFlags (s : State) : State :=
  { s with rflags := { s.rflags with vm := false, if_ := false } }

end Sys2Proof.Machine
end

