-- ==== Sys2Proof/Machine/Cet.lean ====
section
/-! DEFINITION. Control-flow enforcement as far as SYSENTER reads and writes it: the two predicates the
spec leaves open, and parts F and H of R110. -/

namespace Sys2Proof

/-- `ShadowStackEnabled` of R6, uninterpreted: of the state at the point of evaluation and the level.
FREE (log 9). -/
opaque Config.shadowStackPredicate : Machine.State → Level → Bool

/-- `EndbranchEnabled` of R6, uninterpreted in the same way. FREE (log 9). -/
opaque Config.endbranchPredicate : Machine.State → Level → Bool

end Sys2Proof

namespace Sys2Proof.Machine

/-- `ShadowStackEnabled(here, level)`: constantly false on a processor without CET (R6, D13). -/
def shadowStackEnabled (here : State) (level : Level) : Bool :=
  here.config.cetPresent && Config.shadowStackPredicate here level

/-- `EndbranchEnabled(here, level)`: constantly false on a processor without CET (R6, D13). -/
def endbranchEnabled (here : State) (level : Level) : Bool :=
  here.config.cetPresent && Config.endbranchPredicate here level

/-- Part F of R110: the caller's shadow-stack pointer goes to IA32_PL3_SSP, adjusted in IA-32e mode
(R31, R122). -/
def saveShadowStack (enabled : Bool) (s : State) : State :=
  { s with
    pl3Ssp := if enabled = true then
        (if s.lma = true then laAdjust s.config.linearWidth s.ssp else s.ssp)
      else s.pl3Ssp }

/-- Part H of R110, first line: level 0 starts with SSP = 0 (R37, R122). -/
def resetShadowStack (enabled : Bool) (s : State) : State :=
  { s with ssp := if enabled = true then 0#64 else s.ssp }

/-- Part H of R110, second line: the tracker waits for an ENDBRANCH, not suppressed (R32, R123). -/
def armTracker (enabled : Bool) (s : State) : State :=
  { s with
    sCet := { s.sCet with
      tracker := if enabled = true then .waitForEndbranch else s.sCet.tracker
      suppress := if enabled = true then false else s.sCet.suppress } }

end Sys2Proof.Machine
end

