-- ==== Sys2Proof/Machine/Sysenter.lean ====
section
/-! DEFINITION. The SYSENTER family: the operation of R110, part by part, and the two meanings. -/

namespace Sys2Proof.Machine

/-- Part D of R110: all 64 bits of the two pointer MSRs in IA-32e mode, otherwise bits 31:0 under two
free upper halves (R21, R22). -/
def loadPointers (ia32e : Bool) (s : State) : State :=
  { s with
    rsp := if ia32e = true then s.sysenterEsp else lowHalfLoaded s.sysenterEsp s.draws
    rip := if ia32e = true then s.sysenterEip else lowHalfLoaded s.sysenterEip (s.draws + 1)
    draws := if ia32e = true then s.draws else s.draws + 2 }

/-- Part E of R110: the selector from the MSR, the descriptor cache from constants (R33, R76). The Type
is decimal 11 (D17; log 28). -/
def loadCodeSegment (ia32e : Bool) (sel : Selector) (s : State) : State :=
  { s with
    cs := { selector := sel, base := 0#64, limit := 0xFFFFF#20, type := 11#4, s := true
            dpl := 0#2, p := true, l := ia32e, d := !ia32e, g := true } }

/-- Part G of R110. -/
def setLevel0 (s : State) : State := { s with cpl := 0#2 }

/-- Part I of R110: the selector above the code selector, the descriptor cache from constants (R34, R76). -/
def loadStackSegment (sel : Selector) (s : State) : State :=
  { s with
    ss := { selector := stackSelector sel, base := 0#64, limit := 0xFFFFF#20, type := 3#4
            s := true, dpl := 0#2, p := true, b := true, g := true } }

/-- The state part F of R110 starts from, at which `ShadowStackEnabled` is asked for the caller's level:
after parts C, D and E (R11: a later statement sees the writes of an earlier one). -/
def beforeCet (s : State) : State :=
  loadCodeSegment s.lma (codeSelector s.sysenterCs) (loadPointers s.lma (clearFlags s))

/-- The state part H of R110 starts from, at which `ShadowStackEnabled` is asked for level 0: after the
save and after `CPL <- 0`. The predicate is an argument. -/
def atLevel0 (shadowStack : State → Level → Bool) (s : State) : State :=
  setLevel0 (saveShadowStack (shadowStack (beforeCet s) s.cpl) (beforeCet s))

/-- The state at which `EndbranchEnabled` is asked for level 0: after SSP has been written. -/
def beforeTracker (shadowStack : State → Level → Bool) (s : State) : State :=
  resetShadowStack (shadowStack (atLevel0 shadowStack s) 0#2) (atLevel0 shadowStack s)

/-- Parts C to I of R110, the two CET predicates being arguments. -/
def enterLevel0 (shadowStack endbranch : State → Level → Bool) (s : State) : State :=
  loadStackSegment (codeSelector s.sysenterCs)
    (armTracker (endbranch (beforeTracker shadowStack s) 0#2) (beforeTracker shadowStack s))

/-- `refuse(v86_cet)` of R110 part A': the caller is in virtual-8086 mode on a processor with CET (D20). -/
def v86WithCet (s : State) : Bool := s.rflags.vm && s.config.cetPresent

/-- SYSENTER (R110): the refusals of part A, the fault test of part B, the refusals of part A', and then the
operation. -/
def execSysenter (s : State) : Host.Outcome State Fault Refusal :=
  if sysenterSupported s.config = false then .refused .unsupported
  else if msrsCanonical s = false then .refused .noncanonicalMsr
  else if s.cr0.pe = false ∨ nullSelector s.sysenterCs = true then raise (.generalProtection 0)
  else if selectorFits (codeSelector s.sysenterCs) = false then .refused .selectorOverflow
  else if v86WithCet s = true then .refused .v86Cet
  else .next (enterLevel0 shadowStackEnabled endbranchEnabled s)

/-- LOCK SYSENTER (R111): #UD in every mode, before any condition of R110 is looked at (R167; log 5). -/
def execLockSysenter (s : State) : Host.Outcome State Fault Refusal :=
  if sysenterSupported s.config = false then .refused .unsupported
  else raise .invalidOpcode

end Sys2Proof.Machine
end

