-- ==== Sys2Proof/Decode.lean ====
section
/-! DEFINITION. The decoder of R97, total on any bytes, the encoder of R90 and R93, and the host's view
of a table row as one number. -/

namespace Sys2Proof

/-- Why the decoder gives no instruction. -/
inductive DecodeError where
  /-- The bytes are neither `0F 34` nor `F0 0F 34` (R97). -/
  | notShown
  /-- The list ends before the bytes say which they are. -/
  | truncated
  deriving DecidableEq, Repr

/-- The bytes 0FH and 34H of the opcode (R90). -/
def opcodeByte0 : Byte := 0x0F#8
def opcodeByte1 : Byte := 0x34#8

/-- The LOCK prefix. PRESUMED: the source never gives its value (R93, G1; log 13). -/
def lockPrefix : Byte := 0xF0#8

/-- The second byte of the two-byte opcode (R98), with the bytes after it. -/
def decodeSecondByte (i : Instr) : List Byte → Except DecodeError (Instr × List Byte)
  | [] => .error .truncated
  | b :: rest => if b = opcodeByte1 then .ok (i, rest) else .error .notShown

/-- The opcode that must follow a LOCK prefix (R93, R94: a second prefix of any kind is not shown). -/
def decodeAfterLock : List Byte → Except DecodeError (Instr × List Byte)
  | [] => .error .truncated
  | b :: rest => if b = opcodeByte0 then decodeSecondByte .lockSysenter rest else .error .notShown

/-- The decoder: the instruction at the front of the bytes, and the bytes after it (R97). -/
def decode : List Byte → Except DecodeError (Instr × List Byte)
  | [] => .error .truncated
  | b :: rest =>
    if b = lockPrefix then decodeAfterLock rest
    else if b = opcodeByte0 then decodeSecondByte .sysenter rest
    else .error .notShown

/-- The encoder, from the opcode table: bytes in ascending address order (R71, R90, R93). -/
def encode : Instr → List Byte
  | .sysenter => [0x0F#8, 0x34#8]
  | .lockSysenter => [0xF0#8, 0x0F#8, 0x34#8]

/-- How many bytes the fetch reads, known from the first one (R74, R97: at most three). -/
def fetchLength (b0 : Byte) : Nat :=
  if b0 = lockPrefix then 3 else if b0 = opcodeByte0 then 2 else 1

/-- The length of the longest instruction (R96). -/
def maxInstrLength : Nat := 3

/-- The bytes of a row of spec/opcode_table.json whose bits are `w`. The table numbers a row's bits with
the first byte in the high half (its "encoding_note"), so the first byte is the highest of the `nbits`
bits; bytes past `nbits` are 0, up to the longest instruction (log 37). -/
def tableBytes (nbits w : Nat) : List Byte :=
  (List.range maxInstrLength).map fun k =>
    if 8 * (k + 1) ≤ nbits then BitVec.ofNat 8 (w >>> (nbits - 8 * (k + 1))) else 0#8

/-- The instruction the decoder reads from the table's bits `w`. -/
def decodeTableWord (nbits w : Nat) : Option Instr :=
  match decode (tableBytes nbits w) with
  | .ok (i, _) => some i
  | .error _ => none

end Sys2Proof
end

