-- ==== Sys2Proof/Machine/Fetch.lean ====
section
/-! DEFINITION. Instruction fetch (R74). -/

namespace Sys2Proof.Machine

/-- The offset fetched at: RIP in 64-bit mode, EIP otherwise (R74). -/
def instructionPointer (s : State) : Word :=
  if s.mode = .mode64 then s.rip else (s.rip.setWidth 32).setWidth 64

/-- The linear address of the first byte: `trunc_64(CS.Base + ip)` (R74). -/
def fetchAddress (s : State) : Word := s.cs.base + instructionPointer s

/-- The bytes R74's fetch reads: as many as the first one asks for, or none where one of them cannot be
read. -/
def fetchBytes (s : State) : Option (List Byte) :=
  match readCode s (fetchAddress s) with
  | none => none
  | some b0 => readCodeBytes s (fetchAddress s) (fetchLength b0)

/-- The refusal a decoding error is (R74, R97). -/
def decodeRefusal : DecodeError → Refusal
  | .notShown => .notShown
  | .truncated => .fetchUnmodelled

/-- `Fetch` of R74, with the decoding of R97: the instruction, or why there is none. -/
def fetch (s : State) : Except Refusal Instr :=
  match fetchBytes s with
  | none => .error .fetchUnmodelled
  | some bytes =>
    match decode bytes with
    | .ok (i, _) => .ok i
    | .error e => .error (decodeRefusal e)

end Sys2Proof.Machine
end

