-- ==== Sys2Proof/Machine/Step.lean ====
section
/-! DEFINITION. One step (R13): fetch, decode, perform; and the load of one instruction where the next
step fetches. -/

namespace Sys2Proof.Machine

/-- One step of the logical processor (R13). Nothing is added around `exec`: neither instruction advances
the instruction pointer by its length (R21, R96). -/
def step (s : State) : Host.Outcome State Fault Refusal :=
  match fetch s with
  | .error r => .refused r
  | .ok i => exec i s

/-- `s` with the table's instruction `w` loaded where the next step fetches (logs 30, 37). -/
def State.withFetchWord (s : State) (nbits w : Nat) : State :=
  placeCode (fetchAddress s) (tableBytes nbits w) s

end Sys2Proof.Machine
end

