-- ==== Sys2Proof/Safety.lean ====
section
/-! DEFINITION. What the statements call a state of the hardware, a state SYSENTER runs from, and its
landing state. -/

namespace Sys2Proof.Safety

open Sys2Proof.Machine

/-- Part A of R110 refuses nothing: the processor has the instruction and both pointer MSRs are canonical. -/
abbrev Admitted (s : State) : Prop :=
  sysenterSupported s.config = true ∧ msrsCanonical s = true

/-- SYSENTER runs to its end: nothing of R127 refuses it, it is not in real-address mode, and the selector
is not null (R110, R118). -/
abbrev Runs (s : State) : Prop :=
  Admitted s ∧ s.cr0.pe = true ∧ nullSelector s.sysenterCs = false ∧
    selectorFits (codeSelector s.sysenterCs) = true ∧ v86WithCet s = false

/-- What holds of every state of the hardware, as far as the spec says, and what no step breaks:
a configuration in its bounds (R6); memory in its canonical form; the two pointer MSRs canonical (R28,
R29); LMA only with PE (R42); CS.D = 0 wherever CS.L = 1 ("Required if CS.L = 1", R33); and in IA-32e
mode a canonical IA32_PL3_SSP, which is what SYSENTER stores there (R78). -/
structure Inv (s : State) : Prop where
  configWf : Config.wf s.config
  memoryWf : Memory.wf s.memory
  msrs : msrsCanonical s = true
  lmaPe : s.lma = true → s.cr0.pe = true
  longCode : s.cs.l = true → s.cs.d = false
  pl3Ssp : s.lma = true → canonical s.config.linearWidth s.pl3Ssp = true

/-- Two landing states agree in everything SYSENTER writes, but for the free values (upper halves outside
IA-32e mode) and the CET state. -/
structure SameLanding (t u : State) : Prop where
  eip : t.rip.setWidth 32 = u.rip.setWidth 32
  esp : t.rsp.setWidth 32 = u.rsp.setWidth 32
  rip : t.lma = true → t.rip = u.rip
  rsp : t.lma = true → t.rsp = u.rsp
  vm : t.rflags.vm = u.rflags.vm
  if_ : t.rflags.if_ = u.rflags.if_
  cs : t.cs = u.cs
  cpl : t.cpl = u.cpl
  ss : t.ss = u.ss

/-- Two landing states have the same CET state: IA32_PL3_SSP, SSP and IA32_S_CET. -/
structure SameCet (t u : State) : Prop where
  pl3Ssp : t.pl3Ssp = u.pl3Ssp
  ssp : t.ssp = u.ssp
  sCet : t.sCet = u.sCet

end Sys2Proof.Safety
end

