-- ==== Sys2Proof/Certificates/Slice0/Obligations.lean ====
section
/-! DEFINITION. The statements for the provers, each a rule of spec/ or what follows from several. -/

open Sys2Proof Sys2Proof.Machine Sys2Proof.Safety

/-! ### Encoding and fetch -/

/-- R90, R93, R97: the bytes decode to an instruction exactly when its encoding stands at their front
(the prefix byte is log 13, the byte order log 14, the refusal of other bytes log 12). -/
def Obligations.DecodeEncodeAgree : Prop :=
  ∀ (bs : List Byte) (i : Instr) (rest : List Byte),
    decode bs = .ok (i, rest) ↔ bs = encode i ++ rest

/-- R97: the three verdicts, and at most three bytes are read (logs 12, 13, 14). -/
def Obligations.DecoderVerdicts : Prop :=
  (∀ (b0 b1 b2 : Byte) (rest : List Byte),
    decode (b0 :: b1 :: b2 :: rest) =
      if b0 = 0x0F#8 ∧ b1 = 0x34#8 then .ok (.sysenter, b2 :: rest)
      else if b0 = 0xF0#8 ∧ b1 = 0x0F#8 ∧ b2 = 0x34#8 then .ok (.lockSysenter, rest)
      else .error .notShown) ∧
  ∀ b0 : Byte, fetchLength b0 ≤ 3

/-- R90, R93 and vector V21: a few byte sequences written out (logs 12, 13, 14; the table's words, log 37). -/
def Obligations.EncodingWordsDecode : Prop :=
  decode [0x0F#8, 0x34#8] = .ok (.sysenter, []) ∧
  decode [0xF0#8, 0x0F#8, 0x34#8] = .ok (.lockSysenter, []) ∧
  decode [0x0F#8, 0x35#8, 0x00#8] = .error .notShown ∧
  decode [0xF0#8, 0xF0#8, 0x0F#8, 0x34#8] = .error .notShown ∧
  decode [0x66#8, 0x0F#8, 0x34#8] = .error .notShown ∧
  decode [0x34#8, 0x0F#8] = .error .notShown ∧
  decode [0x90#8] = .error .notShown ∧
  decodeTableWord 16 0x0F34 = some .sysenter ∧
  decodeTableWord 24 0xF00F34 = some .lockSysenter

/-- R13: where the bytes fetched decode to an instruction, the step is that instruction, and nothing is
added around it. -/
def Obligations.StepRunsDecodedInstruction : Prop :=
  ∀ (s : State) (bytes : List Byte) (i : Instr) (rest : List Byte),
    fetchBytes s = some bytes → decode bytes = .ok (i, rest) → i.wf = true → step s = exec i s

/-- R74: the whole of `Fetch`, with what the step does on each of its ends. The width in which 1 and 2 are
added to the linear address is the model's reading (log 15); the modes are log 24, the refusals logs 12 and
17, the prefix byte and the byte order logs 13 and 14. -/
def Obligations.StepFetchesAndRuns : Prop :=
  ∀ s : State,
    let ip : Word := if s.mode = .mode64 then s.rip else (s.rip.setWidth 32).setWidth 64
    let la : Word := s.cs.base + ip
    step s =
      match readCode s la with
      | none => .refused .fetchUnmodelled
      | some b0 =>
        if b0 = 0xF0#8 then
          match readCode s (la + 1#64), readCode s (la + 2#64) with
          | some b1, some b2 =>
            if b1 = 0x0F#8 ∧ b2 = 0x34#8 then exec .lockSysenter s else .refused .notShown
          | _, _ => .refused .fetchUnmodelled
        else if b0 = 0x0F#8 then
          match readCode s (la + 1#64) with
          | some b1 => if b1 = 0x34#8 then exec .sysenter s else .refused .notShown
          | none => .refused .fetchUnmodelled
        else .refused .notShown

/-- The load of one table row where the next step fetches makes that step run it, from any state: the
load is log 30, the numbering of the table's bits log 37. -/
def Obligations.LoadedInstructionRuns : Prop :=
  ∀ s : State,
    step (s.withFetchWord 16 0x0F34) = exec .sysenter (s.withFetchWord 16 0x0F34) ∧
    step (s.withFetchWord 24 0xF00F34) = exec .lockSysenter (s.withFetchWord 24 0xF00F34)

/-- R13, R97: a step that completes was a SYSENTER whose two bytes stand at the instruction pointer, refused
by nothing of R127 (logs 7, 8, 10, 11), outside real-address mode, with no null selector. -/
def Obligations.StepCompletesOnlyAtSysenter : Prop :=
  ∀ s t : State, step s = .next t →
    Runs s ∧ exec .sysenter s = .next t ∧
    readCode s (fetchAddress s) = some 0x0F#8 ∧ readCode s (fetchAddress s + 1#64) = some 0x34#8

/-! ### SYSENTER: results -/

/-- R110 in IA-32e mode (64-bit or compatibility): the whole result outside CET (IA-32e mode is log 3,
the decimal types log 28). -/
def Obligations.SysenterRunsInIa32eMode : Prop :=
  ∀ s : State, Runs s → s.lma = true →
    ∃ t, exec .sysenter s = .next t ∧
      t.rip = s.sysenterEip ∧ t.rsp = s.sysenterEsp ∧
      t.rflags.vm = false ∧ t.rflags.if_ = false ∧ t.cpl = 0#2 ∧
      t.cs =
        { selector := s.sysenterCs.setWidth 16 &&& 0xFFFC#16, base := 0#64, limit := 0xFFFFF#20
          type := 11#4, s := true, dpl := 0#2, p := true, l := true, d := false, g := true } ∧
      t.ss =
        { selector := (s.sysenterCs.setWidth 16 &&& 0xFFFC#16) + 8#16, base := 0#64, limit := 0xFFFFF#20
          type := 3#4, s := true, dpl := 0#2, p := true, b := true, g := true }

/-- R110 outside IA-32e mode (protected or virtual-8086): the whole result outside CET. Bits 63:32 of RSP
and RIP are free, and nothing is said of them (R21, R22; log 6). IA-32e mode is log 3, the types log 28. -/
def Obligations.SysenterRunsOutsideIa32eMode : Prop :=
  ∀ s : State, Runs s → s.lma = false →
    ∃ t, exec .sysenter s = .next t ∧
      t.rip.setWidth 32 = s.sysenterEip.setWidth 32 ∧ t.rsp.setWidth 32 = s.sysenterEsp.setWidth 32 ∧
      t.rflags.vm = false ∧ t.rflags.if_ = false ∧ t.cpl = 0#2 ∧
      t.cs =
        { selector := s.sysenterCs.setWidth 16 &&& 0xFFFC#16, base := 0#64, limit := 0xFFFFF#20
          type := 11#4, s := true, dpl := 0#2, p := true, l := false, d := true, g := true } ∧
      t.ss =
        { selector := (s.sysenterCs.setWidth 16 &&& 0xFFFC#16) + 8#16, base := 0#64, limit := 0xFFFFF#20
          type := 3#4, s := true, dpl := 0#2, p := true, b := true, g := true }

/-- R77, R126: CS.Selector takes bits 15:2 of the MSR under RPL 0, and SS.Selector is exactly 8 above it
with the same bits 2:0. From FFF8H on, where the sum does not fit, a SYSENTER that neither part A refuses
nor part B faults is refused (D6; log 7). -/
def Obligations.SelectorArithmetic : Prop :=
  (∀ s : State, Runs s →
    ∃ t, exec .sysenter s = .next t ∧
      t.cs.selector.extractLsb' 0 2 = 0#2 ∧
      t.cs.selector.extractLsb' 2 14 = s.sysenterCs.extractLsb' 2 14 ∧
      t.ss.selector.toNat = t.cs.selector.toNat + 8 ∧
      t.ss.selector.extractLsb' 0 3 = t.cs.selector.extractLsb' 0 3) ∧
  ∀ s : State, Admitted s → s.cr0.pe = true → 0xFFF8 ≤ (s.sysenterCs.setWidth 16).toNat →
    exec .sysenter s = .refused .selectorOverflow

/-- R76, R33, R34: both segments are flat and at level 0 after a SYSENTER that completes, in any mode, and
the RPL of CS is 0. -/
def Obligations.FlatLevel0Segments : Prop :=
  ∀ s t : State, exec .sysenter s = .next t →
    (t.cs.base = 0#64 ∧ t.cs.limit = 0xFFFFF#20 ∧ t.cs.g = true ∧ t.cs.p = true ∧ t.cs.dpl = 0#2 ∧
      t.cs.s = true ∧ t.cs.type = 11#4 ∧ t.cs.l = s.lma ∧ t.cs.d = !s.lma ∧
      t.cs.selector.extractLsb' 0 2 = 0#2) ∧
    (t.ss.base = 0#64 ∧ t.ss.limit = 0xFFFFF#20 ∧ t.ss.g = true ∧ t.ss.p = true ∧ t.ss.dpl = 0#2 ∧
      t.ss.s = true ∧ t.ss.type = 3#4 ∧ t.ss.b = true)

/-- R24: VM and IF become 0 and every other bit of RFLAGS is unchanged. And no flag decides the outcome
or the landing: with any other flags SYSENTER faults alike and lands alike, and completes and is refused alike
as long as VM is the same on a processor with CET, where D20's refusal looks at it (log 8); without CET the
CET registers are alike. -/
def Obligations.FlagsAffected : Prop :=
  (∀ s t : State, exec .sysenter s = .next t →
    t.rflags.vm = false ∧ t.rflags.if_ = false ∧ t.rflags.other = s.rflags.other) ∧
  ∀ (s : State) (flags : RFlags),
    (∀ f, exec .sysenter { s with rflags := flags } = .fault f ↔ exec .sysenter s = .fault f) ∧
    ((s.config.cetPresent = true → flags.vm = s.rflags.vm) →
      ((∃ u, exec .sysenter { s with rflags := flags } = .next u) ↔ ∃ t, exec .sysenter s = .next t) ∧
      ∀ r, exec .sysenter { s with rflags := flags } = .refused r ↔ exec .sysenter s = .refused r) ∧
    ∀ t u, exec .sysenter s = .next t → exec .sysenter { s with rflags := flags } = .next u →
      SameLanding t u ∧ (s.config.cetPresent = false → SameCet t u)

/-- R114: 64-bit mode from IA-32e mode, otherwise protected mode with a 32-bit code segment; level 0,
interrupts masked, PE and LMA unchanged. -/
def Obligations.ModeAfterSysenter : Prop :=
  ∀ s t : State, exec .sysenter s = .next t →
    t.mode = (if s.lma = true then .mode64 else .protectedMode) ∧
    (s.lma = false → t.rflags.vm = false ∧ t.cs.l = false ∧ t.cs.d = true) ∧
    (s.lma = true → t.cs.l = true) ∧
    t.cpl = 0#2 ∧ t.rflags.if_ = false ∧ t.cr0.pe = s.cr0.pe ∧ t.efer.lma = s.efer.lma

/-- R120: a compatibility-mode caller lands in 64-bit mode with all 64 bits of both pointers. -/
def Obligations.CompatibilityCallerEnters64Bit : Prop :=
  ∀ s : State, Runs s → s.mode = .compatibility →
    ∃ t, exec .sysenter s = .next t ∧ t.mode = .mode64 ∧
      t.rip = s.sysenterEip ∧ t.rsp = s.sysenterEsp ∧ t.cs.l = true ∧ t.cs.d = false

/-- R119: a virtual-8086 caller leaves that mode for 32-bit protected mode at level 0, and on a processor
with CET, where nothing else refuses or faults it, it is refused (D20; log 8). -/
def Obligations.Virtual8086CallerLeavesThatMode : Prop :=
  (∀ s : State, Runs s → s.mode = .virtual8086 →
    ∃ t, exec .sysenter s = .next t ∧ t.mode = .protectedMode ∧ t.rflags.vm = false ∧ t.cpl = 0#2 ∧
      t.cs.l = false ∧ t.cs.d = true ∧ t.cs.base = 0#64 ∧ t.ss.base = 0#64 ∧
      t.rip.setWidth 32 = s.sysenterEip.setWidth 32) ∧
  ∀ s : State, Admitted s → s.mode = .virtual8086 → s.config.cetPresent = true →
    s.sysenterCs.extractLsb' 2 14 ≠ 0#14 → (s.sysenterCs.setWidth 16).toNat < 0xFFF8 →
    exec .sysenter s = .refused .v86Cet

/-! ### Exceptions and refusals -/

/-- R163, R118: the table of outcomes per mode, where part A of R110 admits the step. Where the table says
that SYSENTER executes, it completes but for the two refusals of part A' (D6, D20; logs 7, 8). No fault is
raised beside the two. The modes are those of R42 (log 24); #UD before #GP(0) is log 5, the
error code in real-address mode log 27. -/
def Obligations.OutcomePerMode : Prop :=
  ∀ s : State, Admitted s →
    exec .lockSysenter s = .fault .invalidOpcode ∧
    (s.mode = .realAddress → exec .sysenter s = .fault (.generalProtection 0)) ∧
    (s.mode ≠ .realAddress → s.sysenterCs.extractLsb' 2 14 = 0#14 →
      exec .sysenter s = .fault (.generalProtection 0)) ∧
    (s.mode ≠ .realAddress → s.sysenterCs.extractLsb' 2 14 ≠ 0#14 →
      if 0xFFF8 ≤ (s.sysenterCs.setWidth 16).toNat then exec .sysenter s = .refused .selectorOverflow
      else if s.rflags.vm = true ∧ s.config.cetPresent = true then exec .sysenter s = .refused .v86Cet
      else ∃ t, exec .sysenter s = .next t) ∧
    ∀ (i : Instr) (f : Fault), exec i s = .fault f → f = .generalProtection 0 ∨ f = .invalidOpcode

/-- R161: the two causes of #GP(0), where R127 admits the step, and no other fault of SYSENTER anywhere. In
the states R127 refuses there is no fault because the model stops (logs 7, 8, 10, 11): on a processor
without the instruction (log 11) N24 leaves open what the chip does. The error code in real-address mode is
log 27. -/
def Obligations.GeneralProtectionCauses : Prop :=
  ∀ s : State,
    (Admitted s →
      (exec .sysenter s = .fault (.generalProtection 0) ↔
        s.cr0.pe = false ∨ s.sysenterCs.extractLsb' 2 14 = 0#14)) ∧
    ∀ f, exec .sysenter s = .fault f → f = .generalProtection 0

/-- R162, R111: on a processor that has the instruction #UD comes from the LOCK form, in every mode, and
from nothing else; that it comes before #GP(0) is log 5. That neither form raises it on a processor without
the instruction is no rule of the source: it is the model's own refusal there (D14, log 11), and N24 leaves
open what such a processor does. -/
def Obligations.InvalidOpcodeOnlyFromLock : Prop :=
  ∀ (i : Instr) (s : State),
    exec i s = .fault .invalidOpcode ↔ i = .lockSysenter ∧ sysenterSupported s.config = true

/-- R111: LOCK SYSENTER stops on every path: #UD on a processor that has the instruction (before #GP(0), log
5), and on one that has not the model's own refusal (D14, log 11). -/
def Obligations.LockSysenterRaisesInvalidOpcode : Prop :=
  ∀ s : State,
    (sysenterSupported s.config = true → exec .lockSysenter s = .fault .invalidOpcode) ∧
    (sysenterSupported s.config = false → exec .lockSysenter s = .refused .unsupported)

/-- R127: the four refusals of SYSENTER, each exactly under its condition, tested in the order of R110; the
two refusals of the fetch are in StepFetchesAndRuns, and `unwritten` cannot arise (log 20). -/
def Obligations.SysenterRefusals : Prop :=
  ∀ (s : State) (r : Refusal),
    exec .sysenter s = .refused r ↔
      (r = .unsupported ∧ sysenterSupported s.config = false) ∨
      (r = .noncanonicalMsr ∧ sysenterSupported s.config = true ∧
        ¬ (canonical s.config.linearWidth s.sysenterEsp = true ∧
           canonical s.config.linearWidth s.sysenterEip = true)) ∨
      (r = .selectorOverflow ∧ Admitted s ∧ s.cr0.pe = true ∧
        0xFFF8 ≤ (s.sysenterCs.setWidth 16).toNat) ∨
      (r = .v86Cet ∧ Admitted s ∧ s.cr0.pe = true ∧ s.sysenterCs.extractLsb' 2 14 ≠ 0#14 ∧
        (s.sysenterCs.setWidth 16).toNat < 0xFFF8 ∧ s.rflags.vm = true ∧ s.config.cetPresent = true)

/-- R121: the level SYSENTER is executed at decides neither whether it completes, faults or is refused nor
where it lands. With CET part F asks its predicate at that level (R122), so the CET registers are compared
only without CET. The levels 0 to 3 are log 25. -/
def Obligations.NoPrivilegeCheck : Prop :=
  ∀ (s : State) (level : Level),
    ((∃ u, exec .sysenter { s with cpl := level } = .next u) ↔ ∃ t, exec .sysenter s = .next t) ∧
    (∀ f, exec .sysenter { s with cpl := level } = .fault f ↔ exec .sysenter s = .fault f) ∧
    (∀ r, exec .sysenter { s with cpl := level } = .refused r ↔ exec .sysenter s = .refused r) ∧
    ∀ t u, exec .sysenter s = .next t → exec .sysenter { s with cpl := level } = .next u →
      SameLanding t u ∧ (s.config.cetPresent = false → SameCet t u)

/-! ### Control-flow enforcement -/

/-- R122, R31, R37: the caller's SSP is saved, adjusted in IA-32e mode, where shadow stacks are enabled at
the caller's level; SSP becomes 0 where they are at level 0; each is otherwise unchanged. The predicate is
asked at the states R11 names (log 9). -/
def Obligations.ShadowStackSaveAndReset : Prop :=
  ∀ s t : State, exec .sysenter s = .next t →
    t.pl3Ssp =
      (if shadowStackEnabled (beforeCet s) s.cpl = true then
        (if s.lma = true then laAdjust s.config.linearWidth s.ssp else s.ssp)
      else s.pl3Ssp) ∧
    t.ssp =
      (if shadowStackEnabled (atLevel0 shadowStackEnabled s) 0#2 = true then 0#64 else s.ssp)

/-- R123, R32: the tracker is armed and not suppressed where ENDBRANCH tracking is enabled at level 0;
both fields are otherwise unchanged, and the other fields always. -/
def Obligations.TrackerArmed : Prop :=
  ∀ s t : State, exec .sysenter s = .next t →
    (if endbranchEnabled (beforeTracker shadowStackEnabled s) 0#2 = true then
      t.sCet.tracker = .waitForEndbranch ∧ t.sCet.suppress = false
    else t.sCet.tracker = s.sCet.tracker ∧ t.sCet.suppress = s.sCet.suppress) ∧
    t.sCet.other = s.sCet.other

/-! ### What stays -/

/-- R124: the frame of SYSENTER. -/
def Obligations.SysenterFrame : Prop :=
  ∀ s t : State, exec .sysenter s = .next t →
    t.sysenterCs = s.sysenterCs ∧ t.sysenterEsp = s.sysenterEsp ∧ t.sysenterEip = s.sysenterEip ∧
    t.cr0 = s.cr0 ∧ t.efer = s.efer ∧ t.rflags.other = s.rflags.other ∧
    t.edx = s.edx ∧ t.otherRegisters = s.otherRegisters ∧ t.config = s.config ∧
    (∀ a, Memory.read t.memory a = Memory.read s.memory a) ∧
    (shadowStackEnabled (atLevel0 shadowStackEnabled s) 0#2 = false → t.ssp = s.ssp) ∧
    (shadowStackEnabled (beforeCet s) s.cpl = false → t.pl3Ssp = s.pl3Ssp) ∧
    (endbranchEnabled (beforeTracker shadowStackEnabled s) 0#2 = false → t.sCet = s.sCet) ∧
    (s.config.cetPresent = false → t.ssp = s.ssp ∧ t.pl3Ssp = s.pl3Ssp ∧ t.sCet = s.sCet)

/-- R125: SYSENTER again from where it landed completes and lands there again; without CET and in IA-32e
mode, on the very same state. -/
def Obligations.SecondSysenterLandsThereAgain : Prop :=
  ∀ s t : State, exec .sysenter s = .next t →
    (∃ u, exec .sysenter t = .next u ∧ SameLanding t u) ∧
    (s.config.cetPresent = false → s.lma = true → exec .sysenter t = .next t)

/-- R115, R170: nothing of the caller is kept. Two states that share the processor, CR0, IA32_EFER and the
three MSRs, and differ in anything else (RIP, RSP, CS, SS, CPL, the flags, memory), land alike, and complete
together unless the second is in virtual-8086 mode on a processor with CET, which D20 refuses (log 8). The
free values are left out of the comparison (log 6). -/
def Obligations.CallerStateIsLost : Prop :=
  ∀ s s' : State,
    s'.config = s.config → s'.cr0 = s.cr0 → s'.efer = s.efer → s'.sysenterCs = s.sysenterCs →
    s'.sysenterEsp = s.sysenterEsp → s'.sysenterEip = s.sysenterEip →
    (s'.rflags.vm = true → s'.config.cetPresent = false) →
    ∀ t, exec .sysenter s = .next t → ∃ t', exec .sysenter s' = .next t' ∧ SameLanding t t'

/-! ### The whole machine -/

/-- What holds of every state of the hardware (R6, R28, R29, R33, R42, R78) is kept by every step (modes: logs 3,
24; canonical values: log 36; the bounds of N: log 35). -/
def Obligations.StepKeepsHardwareState : Prop :=
  ∀ s t : State, Inv s → step s = .next t → Inv t

/-- It holds at reset, whose values are the model's (logs 18, 19). -/
def Obligations.ResetIsHardwareState : Prop := Inv State.reset

/-- R30, R70, R74: no run, of any length and from any state, changes the three MSRs, CR0, IA32_EFER, the
other flags, EDX, the unnamed registers, memory or the processor. That no step writes the three MSRs is R30's
decision (log 32); interrupts are left out (log 1). -/
def Obligations.RunKeepsProcessorState : Prop :=
  ∀ (k : Nat) (s t : State), Sys2Proof.core.run k s = .next t →
    t.sysenterCs = s.sysenterCs ∧ t.sysenterEsp = s.sysenterEsp ∧ t.sysenterEip = s.sysenterEip ∧
    t.cr0 = s.cr0 ∧ t.efer = s.efer ∧ t.rflags.other = s.rflags.other ∧ t.edx = s.edx ∧
    t.otherRegisters = s.otherRegisters ∧ t.memory = s.memory ∧ t.config = s.config

/-- R170, R114: one entry point for all calls. Whatever state a run starts from and however long it is, if it
completes it is at level 0, with interrupts masked, outside virtual-8086 and compatibility mode, on the
stack and at the address the MSRs hold. The modes are R42's (logs 3, 24); that no step writes the MSRs, so
that the entry point is one over the whole run, is R30's decision (log 32); interrupts are left out (log 1). -/
def Obligations.RunLandsAtLevel0 : Prop :=
  ∀ (k : Nat) (s t : State), Sys2Proof.core.run (k + 1) s = .next t →
    t.cpl = 0#2 ∧ t.rflags.if_ = false ∧ t.rflags.vm = false ∧
    t.mode = (if s.lma = true then .mode64 else .protectedMode) ∧
    t.rip.setWidth 32 = s.sysenterEip.setWidth 32 ∧ t.rsp.setWidth 32 = s.sysenterEsp.setWidth 32 ∧
    (s.lma = true → t.rip = s.sysenterEip ∧ t.rsp = s.sysenterEsp) ∧
    t.cs.selector = s.sysenterCs.setWidth 16 &&& 0xFFFC#16 ∧ t.cs.base = 0#64 ∧ t.ss.base = 0#64

/-! ### Operands, mode, configuration and reset -/

/-- R41: `LA_adjust` keeps the low N bits and copies bit N-1 above them, it is the identity for N = 64, and
what it produces is canonical. -/
def Obligations.LaAdjustSignExtends : Prop :=
  (∀ (n : Nat) (v : Word), 1 ≤ n → n ≤ 64 →
    (∀ i, i < n → (laAdjust n v).getLsbD i = v.getLsbD i) ∧
    (∀ i, n ≤ i → i < 64 → (laAdjust n v).getLsbD i = v.getLsbD (n - 1)) ∧
    (canonical n v = true ↔ laAdjust n v = v) ∧
    canonical n (laAdjust n v) = true) ∧
  ∀ v : Word, laAdjust 64 v = v

/-- R146: the support check. -/
def Obligations.SupportCheck : Prop :=
  ∀ c : Config,
    sysenterSupported c = true ↔
      c.cpuidSep = true ∧ ¬ (c.family = 6 ∧ c.model < 3 ∧ c.stepping < 3)

/-- R42, R26: what decides each operating mode, and LMA is 0 on a processor without IA-32e mode. -/
def Obligations.ModeOfState : Prop :=
  ∀ s : State,
    (s.mode = .realAddress ↔ s.cr0.pe = false) ∧
    (s.mode = .mode64 ↔ s.cr0.pe = true ∧ s.lma = true ∧ s.cs.l = true) ∧
    (s.mode = .compatibility ↔ s.cr0.pe = true ∧ s.lma = true ∧ s.cs.l = false) ∧
    (s.mode = .virtual8086 ↔ s.cr0.pe = true ∧ s.lma = false ∧ s.rflags.vm = true) ∧
    (s.mode = .protectedMode ↔ s.cr0.pe = true ∧ s.lma = false ∧ s.rflags.vm = false) ∧
    (s.inIa32e = true ↔ s.cr0.pe = true ∧ s.lma = true) ∧
    (s.config.intel64 = true → s.lma = s.efer.lma) ∧
    (s.config.intel64 = false → s.lma = false)

/-- R27, R28, R29: the three MSR numbers, which are not in name order. -/
def Obligations.SysenterMsrNumbers : Prop :=
  ∀ s : State,
    sysenterMsr s 0x174 = some s.sysenterCs ∧ sysenterMsr s 0x175 = some s.sysenterEsp ∧
    sysenterMsr s 0x176 = some s.sysenterEip ∧
    ∀ address, address ≠ 0x174 → address ≠ 0x175 → address ≠ 0x176 → sysenterMsr s address = none

/-- The reset values the model names (log 19), as far as G15 lists them: none is a rule of the spec. -/
def Obligations.ResetValues : Prop :=
  State.reset.mode = .realAddress ∧ State.reset.cpl = 0#2 ∧
  State.reset.sysenterCs = 0#64 ∧ State.reset.sysenterEsp = 0#64 ∧ State.reset.sysenterEip = 0#64 ∧
  State.reset.efer.lma = false ∧ State.reset.rflags.vm = false ∧ State.reset.rflags.if_ = false ∧
  fetchAddress State.reset = 0xFFFFFFF0#64

/-- The first step after reset (logs 17, 18, 19, 30): with nothing loaded it is refused; with SYSENTER loaded
it raises #GP(0), as G15 says (the error code in real-address mode is log 27); with the LOCK form it raises
#UD (R111), although both causes of #GP(0) hold there: that priority is log 5 (R167). -/
def Obligations.FirstStepAfterReset : Prop :=
  step State.reset = .refused .fetchUnmodelled ∧
  step (State.reset.withFetchWord 16 0x0F34) = .fault (.generalProtection 0) ∧
  step (State.reset.withFetchWord 24 0xF00F34) = .fault .invalidOpcode
end

