-- ==== Sys2Proof/Laws/Memory.lean ====
section
/-! SUPPORT. What the operations over memory and translation do: a read after a write, and that every
operation keeps the canonical form. -/

namespace Sys2Proof.Machine

section
variable {α : Type}

@[simp] theorem Cells.get_set_same (cells : List (Nat × α)) (a : Nat) (v : α) :
    Cells.get (Cells.set cells a v) a = some v := by
  induction cells with
  | nil => simp [Cells.set, Cells.get]
  | cons p rest ih =>
    obtain ⟨k, w⟩ := p
    by_cases h1 : a < k
    · simp [Cells.set, Cells.get, h1]
    · by_cases h2 : a = k
      · simp [Cells.set, Cells.get, h2]
      · simp [Cells.set, Cells.get, h1, h2, ih]

theorem Cells.get_set_other (cells : List (Nat × α)) {a b : Nat} (v : α) (h : b ≠ a) :
    Cells.get (Cells.set cells a v) b = Cells.get cells b := by
  induction cells with
  | nil => simp [Cells.set, Cells.get, h]
  | cons p rest ih =>
    obtain ⟨k, w⟩ := p
    by_cases h1 : a < k
    · simp [Cells.set, Cells.get, h1, h]
    · by_cases h2 : a = k
      · subst h2; simp [Cells.set, Cells.get, h]
      · simp [Cells.set, Cells.get, h1, h2, ih]

theorem Cells.mem_set {cells : List (Nat × α)} {a : Nat} {v : α} {p : Nat × α}
    (h : p ∈ Cells.set cells a v) : p = (a, v) ∨ p ∈ cells := by
  induction cells with
  | nil => simpa [Cells.set] using h
  | cons q rest ih =>
    obtain ⟨k, w⟩ := q
    by_cases h1 : a < k
    · simpa [Cells.set, h1] using h
    · by_cases h2 : a = k
      · rw [Cells.set, if_neg h1, if_pos h2, List.mem_cons] at h
        exact h.imp id (List.mem_cons_of_mem _)
      · simp only [Cells.set, h1, h2, if_false, List.mem_cons] at h
        rcases h with h | h
        · exact .inr (h ▸ List.mem_cons_self)
        · exact (ih h).imp id (List.mem_cons_of_mem _)

theorem Cells.set_rising {cells : List (Nat × α)} (a : Nat) (v : α)
    (h : cells.Pairwise fun p q => p.1 < q.1) :
    (Cells.set cells a v).Pairwise fun p q => p.1 < q.1 := by
  induction cells with
  | nil => simp [Cells.set]
  | cons q rest ih =>
    obtain ⟨k, w⟩ := q
    rw [List.pairwise_cons] at h
    by_cases h1 : a < k
    · simp only [Cells.set, h1, if_true, List.pairwise_cons, List.mem_cons]
      exact ⟨fun p hp => hp.elim (fun e => e ▸ h1) fun hp => h1.trans (h.1 p hp), h⟩
    · by_cases h2 : a = k
      · rw [Cells.set, if_neg h1, if_pos h2, List.pairwise_cons]
        exact ⟨h2 ▸ h.1, h.2⟩
      · simp only [Cells.set, h1, h2, if_false, List.pairwise_cons]
        refine ⟨fun p hp => ?_, ih h.2⟩
        rcases Cells.mem_set hp with e | hp
        · subst e; show k < a; omega
        · exact h.1 p hp

@[simp] theorem Cells.get_erase_same (cells : List (Nat × α)) (a : Nat) :
    Cells.get (Cells.erase cells a) a = none := by
  induction cells with
  | nil => rfl
  | cons q rest ih =>
    obtain ⟨k, w⟩ := q
    by_cases h : k = a
    · simpa [Cells.erase, Cells.get, h] using ih
    · have h' : a ≠ k := fun e => h e.symm
      simpa [Cells.erase, Cells.get, h, h'] using ih

theorem Cells.get_erase_other (cells : List (Nat × α)) {a b : Nat} (h : b ≠ a) :
    Cells.get (Cells.erase cells a) b = Cells.get cells b := by
  induction cells with
  | nil => rfl
  | cons q rest ih =>
    obtain ⟨k, w⟩ := q
    by_cases hk : k = a
    · have hb : b ≠ k := hk ▸ h
      simpa [Cells.erase, Cells.get, hk, h] using ih
    · by_cases hb : b = k
      · simp [Cells.erase, Cells.get, hk, hb]
      · simpa [Cells.erase, Cells.get, hk, hb] using ih

end

@[simp] theorem Memory.read_write_same (m : Memory) (a : Nat) (b : Byte) :
    Memory.read (Memory.write m a b) a = some b :=
  Cells.get_set_same m a b

theorem Memory.read_write_other (m : Memory) {a a' : Nat} (b : Byte) (h : a' ≠ a) :
    Memory.read (Memory.write m a b) a' = Memory.read m a' :=
  Cells.get_set_other m b h

/-- Every memory operation keeps the canonical form: there is one that writes. -/
theorem Memory.write_wf {m : Memory} (a : Nat) (b : Byte) (h : Memory.wf m) :
    Memory.wf (Memory.write m a b) :=
  Cells.set_rising a b h

theorem Cells.erase_translationWf {t : List (Nat × Option Nat)} (a : Nat)
    (h : Config.translationWf t) : Config.translationWf (Cells.erase t a) :=
  ⟨h.1.filter _, fun p hp => h.2 p (List.mem_of_mem_filter hp)⟩

/-- Loading a program keeps memory canonical. -/
theorem placeCode_memoryWf (la : Word) (bs : List Byte) (s : State) (h : Memory.wf s.memory) :
    Memory.wf (placeCode la bs s).memory := by
  induction bs generalizing la s with
  | nil => exact h
  | cons b bs ih => exact ih _ _ (Memory.write_wf _ _ h)

/-- Loading a program keeps the configuration well formed. -/
theorem placeCode_configWf (la : Word) (bs : List Byte) (s : State) (h : Config.wf s.config) :
    Config.wf (placeCode la bs s).config := by
  induction bs generalizing la s with
  | nil => exact h
  | cons b bs ih => exact ih _ _ ⟨h.1, Cells.erase_translationWf _ h.2⟩

/-- Loading a program changes neither where the next step fetches nor any register. -/
theorem placeCode_fetchAddress (la : Word) (bs : List Byte) (s : State) :
    fetchAddress (placeCode la bs s) = fetchAddress s := by
  induction bs generalizing la s with
  | nil => rfl
  | cons b bs ih => exact ih _ _

/-- A byte placed last is what the fetch then reads there. -/
theorem readCode_placed (la : Word) (b : Byte) (s : State) :
    readCode (placeCode la [b] s) la = some b := by
  simp [placeCode, readCode, translateLinear]

/-- Placing a byte leaves the fetch of every other linear address alone, where neither address is
translated. -/
theorem readCode_placed_other (la la' : Word) (b : Byte) (s : State) (h : la' ≠ la)
    (ht : Cells.get s.config.translation la'.toNat = none) :
    readCode (placeCode la [b] s) la' = readCode s la' := by
  have hn : la'.toNat ≠ la.toNat := fun e => h (BitVec.eq_of_toNat_eq e)
  simp [placeCode, readCode, translateLinear, Cells.get_erase_other _ hn, ht, Memory.read_write_other _ _ hn]

/-- Three bytes placed in a row are what the fetch then reads at the three addresses. -/
theorem readCode_placed_three (s : State) (la : Word) (a b c : Byte) :
    readCode (placeCode la [a, b, c] s) la = some a ∧
    readCode (placeCode la [a, b, c] s) (la + 1#64) = some b ∧
    readCode (placeCode la [a, b, c] s) (la + 1#64 + 1#64) = some c := by
  have h1 : la.toNat ≠ (la + 1#64).toNat := by bv_omega
  have h2 : la.toNat ≠ (la + 1#64 + 1#64).toNat := by bv_omega
  have h3 : (la + 1#64).toNat ≠ (la + 1#64 + 1#64).toNat := by bv_omega
  refine ⟨?_, ?_, ?_⟩ <;>
    simp only [placeCode, readCode, translateLinear, Cells.get_erase_same, Cells.get_erase_other _ h1,
      Cells.get_erase_other _ h2, Cells.get_erase_other _ h3, Memory.read_write_same,
      Memory.read_write_other _ _ h1, Memory.read_write_other _ _ h2, Memory.read_write_other _ _ h3]

/-- With no translation listed, the fetch reads memory at the linear address itself (R79). -/
theorem readCode_identity (s : State) (la : Word) (h : s.config.translation = []) :
    readCode s la = Memory.read s.memory la.toNat := by
  simp [readCode, translateLinear, h, Cells.get]

end Sys2Proof.Machine
end

