-- ==== Sys2Proof/Laws/Operands.lean ====
section
/-! SUPPORT. The arithmetic of R126 and R41, bit by bit. -/

namespace Sys2Proof.Machine

/-- `LA_adjust` is a sign extension from bit N-1, for a width of at most 64. -/
theorem laAdjust_getLsbD {n : Nat} (hn : n ≤ 64) (v : Word) (i : Nat) (hi : i < 64) :
    (laAdjust n v).getLsbD i = if i < n then v.getLsbD i else decide (0 < n) && v.getLsbD (n - 1) := by
  simp only [laAdjust, BitVec.getLsbD_signExtend, BitVec.msb_eq_getLsbD_last, BitVec.getLsbD_setWidth, hi,
    decide_true, Bool.true_and]
  by_cases hin : i < n
  · simp only [hin, if_true, decide_true, Bool.true_and]
  · rcases Nat.eq_zero_or_pos n with h | h
    · simp [h]
    · have h1 : n - 1 < n := by omega
      simp only [hin, if_false, h1, h, decide_true]

/-- From 64 bits up `LA_adjust` leaves every value. -/
theorem laAdjust_wide {n : Nat} (hn : 64 ≤ n) (v : Word) : laAdjust n v = v := by
  apply BitVec.eq_of_getLsbD_eq
  intro i hi
  have h : i < n := by omega
  simp only [laAdjust, BitVec.getLsbD_signExtend, BitVec.getLsbD_setWidth, hi, h, if_true, decide_true,
    Bool.true_and]

/-- What `LA_adjust` produces is canonical (R41, R78). -/
theorem laAdjust_idem (n : Nat) (v : Word) : laAdjust n (laAdjust n v) = laAdjust n v := by
  rcases Nat.le_total 64 n with h | h
  · simp [laAdjust_wide h]
  · apply BitVec.eq_of_getLsbD_eq
    intro i hi
    rw [laAdjust_getLsbD h _ i hi, laAdjust_getLsbD h v i hi]
    by_cases hin : i < n
    · simp [hin]
    · by_cases h0 : 0 < n
      · rw [laAdjust_getLsbD h v (n - 1) (by omega)]
        simp [hin, h0]
      · simp [hin, h0]

theorem canonical_laAdjust (n : Nat) (v : Word) : canonical n (laAdjust n v) = true := by
  simp [canonical, laAdjust_idem]

/-- Zero is canonical for every width (V14). -/
theorem canonical_zero (n : Nat) : canonical n 0#64 = true := by
  have h : laAdjust n 0#64 = 0#64 := by
    apply BitVec.eq_of_getLsbD_eq
    intro i hi
    simp only [laAdjust, BitVec.getLsbD_signExtend, BitVec.msb_eq_getLsbD_last, BitVec.getLsbD_setWidth,
      BitVec.getLsbD_zero, Bool.and_false, ite_self]
  simp [canonical, h]

/-- Bits 31:0 of a pointer loaded outside IA-32e mode are those of the MSR, whatever the free half (R21,
R22). -/
@[simp] theorem lowHalfLoaded_low (msr : Word) (d : Nat) :
    (lowHalfLoaded msr d).setWidth 32 = msr.setWidth 32 := by
  apply BitVec.eq_of_getLsbD_eq
  intro i hi
  simp only [lowHalfLoaded, BitVec.getLsbD_setWidth, BitVec.getLsbD_append, hi, if_true, decide_true,
    Bool.true_and]

/-- Where the sum fits, SS.Selector is 8 above as a number. -/
theorem stackSelector_toNat {sel : Selector} (h : selectorFits sel = true) :
    (stackSelector sel).toNat = sel.toNat + 8 := by
  have h : sel.toNat + 8 < 2 ^ 16 := by simpa [selectorFits] using h
  simp only [stackSelector]
  bv_omega

/-- The mask leaves RPL 0 (R126 a). -/
theorem codeSelector_rpl (cs : Word) : (codeSelector cs).extractLsb' 0 2 = 0#2 := by
  have hm : ∀ i < 2, (0xFFFC#16).getLsbD i = false := by decide
  apply BitVec.eq_of_getLsbD_eq
  intro i hi
  simp only [codeSelector, BitVec.getLsbD_extractLsb', BitVec.getLsbD_and, Nat.zero_add, hm i hi,
    Bool.and_false, BitVec.getLsbD_zero]

/-- The mask keeps bits 15:2 of the MSR (R126 a). -/
theorem codeSelector_index (cs : Word) : (codeSelector cs).extractLsb' 2 14 = cs.extractLsb' 2 14 := by
  have hm : ∀ i < 14, (0xFFFC#16).getLsbD (2 + i) = true := by decide
  apply BitVec.eq_of_getLsbD_eq
  intro i hi
  have h16 : 2 + i < 16 := by omega
  simp only [codeSelector, BitVec.getLsbD_extractLsb', BitVec.getLsbD_and, BitVec.getLsbD_setWidth, hm i hi,
    h16, decide_true, Bool.true_and, Bool.and_true]

/-- The masked selector as a number (R126 a). -/
theorem codeSelector_toNat (cs : Word) : (codeSelector cs).toNat = 4 * ((cs.setWidth 16).toNat / 4) := by
  have h0 := congrArg BitVec.toNat (codeSelector_rpl cs)
  have h1 := congrArg BitVec.toNat (codeSelector_index cs)
  simp only [BitVec.extractLsb'_toNat, Nat.shiftRight_eq_div_pow, BitVec.toNat_ofNat] at h0 h1
  have := (codeSelector cs).isLt
  rw [BitVec.toNat_setWidth]
  omega

/-- The sum fits exactly when the MSR's low 16 bits are below FFF8H (R110: a masked selector of at most
FFF4H). -/
theorem selectorFits_codeSelector (cs : Word) :
    selectorFits (codeSelector cs) = true ↔ (cs.setWidth 16).toNat < 0xFFF8 := by
  unfold selectorFits
  rw [decide_eq_true_iff, codeSelector_toNat]
  omega

/-- A selector whose sum does not fit is not null. -/
theorem nullSelector_of_big {cs : Word} (h : 0xFFF8 ≤ (cs.setWidth 16).toNat) : nullSelector cs = false := by
  rw [nullSelector, decide_eq_false_iff_not]
  intro e
  have e := congrArg BitVec.toNat e
  simp only [BitVec.extractLsb'_toNat, Nat.shiftRight_eq_div_pow, BitVec.toNat_ofNat] at e
  rw [BitVec.toNat_setWidth] at h
  omega

end Sys2Proof.Machine
end

