-- ==== Sys2Proof/Laws/PerInstr.lean ====
section
/-! SUPPORT. Statements about every instruction, one lemma per constructor. -/

namespace Sys2Proof.Laws.EncodedLength

/-- The encoding has a first byte, the fetch reads exactly as many bytes as the encoding has when it sees
that byte, and that is at most three (R74, R96, R97). -/
def Statement (i : Instr) : Prop :=
  ∃ b rest, encode i = b :: rest ∧ fetchLength b = (encode i).length ∧ (encode i).length ≤ maxInstrLength

theorem sysenter : Statement .sysenter := ⟨0x0F#8, [0x34#8], rfl, by decide, by decide⟩

theorem lockSysenter : Statement .lockSysenter := ⟨0xF0#8, [0x0F#8, 0x34#8], rfl, by decide, by decide⟩

end Sys2Proof.Laws.EncodedLength
end

