-- ==== Sys2Proof/Laws/State.lean ====
section
/-! SUPPORT. One lemma per field per update of the state: what each part of R110 writes, and that it leaves
every other field as it was; and the same for the parts together (`enterLevel0`). -/

namespace Sys2Proof.Machine

/-! Part C of R110 writes RFLAGS only. -/

@[simp] theorem clearFlags_rip (s : State) : (clearFlags s).rip = s.rip := rfl
@[simp] theorem clearFlags_rsp (s : State) : (clearFlags s).rsp = s.rsp := rfl
@[simp] theorem clearFlags_edx (s : State) : (clearFlags s).edx = s.edx := rfl
@[simp] theorem clearFlags_rflags (s : State) :
    (clearFlags s).rflags = { s.rflags with vm := false, if_ := false } := rfl
@[simp] theorem clearFlags_cr0 (s : State) : (clearFlags s).cr0 = s.cr0 := rfl
@[simp] theorem clearFlags_efer (s : State) : (clearFlags s).efer = s.efer := rfl
@[simp] theorem clearFlags_sysenterCs (s : State) :
    (clearFlags s).sysenterCs = s.sysenterCs := rfl
@[simp] theorem clearFlags_sysenterEsp (s : State) :
    (clearFlags s).sysenterEsp = s.sysenterEsp := rfl
@[simp] theorem clearFlags_sysenterEip (s : State) :
    (clearFlags s).sysenterEip = s.sysenterEip := rfl
@[simp] theorem clearFlags_pl3Ssp (s : State) : (clearFlags s).pl3Ssp = s.pl3Ssp := rfl
@[simp] theorem clearFlags_sCet (s : State) : (clearFlags s).sCet = s.sCet := rfl
@[simp] theorem clearFlags_cs (s : State) : (clearFlags s).cs = s.cs := rfl
@[simp] theorem clearFlags_ss (s : State) : (clearFlags s).ss = s.ss := rfl
@[simp] theorem clearFlags_cpl (s : State) : (clearFlags s).cpl = s.cpl := rfl
@[simp] theorem clearFlags_ssp (s : State) : (clearFlags s).ssp = s.ssp := rfl
@[simp] theorem clearFlags_otherRegisters (s : State) :
    (clearFlags s).otherRegisters = s.otherRegisters := rfl
@[simp] theorem clearFlags_memory (s : State) : (clearFlags s).memory = s.memory := rfl
@[simp] theorem clearFlags_config (s : State) : (clearFlags s).config = s.config := rfl
@[simp] theorem clearFlags_draws (s : State) : (clearFlags s).draws = s.draws := rfl

@[simp] theorem clearFlags_lma (s : State) : (clearFlags s).lma = s.lma := rfl

/-! Part D of R110 writes RSP and RIP, drawing two free values outside IA-32e mode. -/

@[simp] theorem loadPointers_rip (e : Bool) (s : State) :
    (loadPointers e s).rip = if e = true then s.sysenterEip else lowHalfLoaded s.sysenterEip (s.draws + 1) := rfl
@[simp] theorem loadPointers_rsp (e : Bool) (s : State) :
    (loadPointers e s).rsp = if e = true then s.sysenterEsp else lowHalfLoaded s.sysenterEsp s.draws := rfl
@[simp] theorem loadPointers_edx (e : Bool) (s : State) :
    (loadPointers e s).edx = s.edx := rfl
@[simp] theorem loadPointers_rflags (e : Bool) (s : State) :
    (loadPointers e s).rflags = s.rflags := rfl
@[simp] theorem loadPointers_cr0 (e : Bool) (s : State) :
    (loadPointers e s).cr0 = s.cr0 := rfl
@[simp] theorem loadPointers_efer (e : Bool) (s : State) :
    (loadPointers e s).efer = s.efer := rfl
@[simp] theorem loadPointers_sysenterCs (e : Bool) (s : State) :
    (loadPointers e s).sysenterCs = s.sysenterCs := rfl
@[simp] theorem loadPointers_sysenterEsp (e : Bool) (s : State) :
    (loadPointers e s).sysenterEsp = s.sysenterEsp := rfl
@[simp] theorem loadPointers_sysenterEip (e : Bool) (s : State) :
    (loadPointers e s).sysenterEip = s.sysenterEip := rfl
@[simp] theorem loadPointers_pl3Ssp (e : Bool) (s : State) :
    (loadPointers e s).pl3Ssp = s.pl3Ssp := rfl
@[simp] theorem loadPointers_sCet (e : Bool) (s : State) :
    (loadPointers e s).sCet = s.sCet := rfl
@[simp] theorem loadPointers_cs (e : Bool) (s : State) :
    (loadPointers e s).cs = s.cs := rfl
@[simp] theorem loadPointers_ss (e : Bool) (s : State) :
    (loadPointers e s).ss = s.ss := rfl
@[simp] theorem loadPointers_cpl (e : Bool) (s : State) :
    (loadPointers e s).cpl = s.cpl := rfl
@[simp] theorem loadPointers_ssp (e : Bool) (s : State) :
    (loadPointers e s).ssp = s.ssp := rfl
@[simp] theorem loadPointers_otherRegisters (e : Bool) (s : State) :
    (loadPointers e s).otherRegisters = s.otherRegisters := rfl
@[simp] theorem loadPointers_memory (e : Bool) (s : State) :
    (loadPointers e s).memory = s.memory := rfl
@[simp] theorem loadPointers_config (e : Bool) (s : State) :
    (loadPointers e s).config = s.config := rfl
@[simp] theorem loadPointers_draws (e : Bool) (s : State) :
    (loadPointers e s).draws = if e = true then s.draws else s.draws + 2 := rfl

@[simp] theorem loadPointers_lma (e : Bool) (s : State) : (loadPointers e s).lma = s.lma := rfl

/-! Part E of R110 writes CS only. -/

@[simp] theorem loadCodeSegment_rip (e : Bool) (sel : Selector) (s : State) :
    (loadCodeSegment e sel s).rip = s.rip := rfl
@[simp] theorem loadCodeSegment_rsp (e : Bool) (sel : Selector) (s : State) :
    (loadCodeSegment e sel s).rsp = s.rsp := rfl
@[simp] theorem loadCodeSegment_edx (e : Bool) (sel : Selector) (s : State) :
    (loadCodeSegment e sel s).edx = s.edx := rfl
@[simp] theorem loadCodeSegment_rflags (e : Bool) (sel : Selector) (s : State) :
    (loadCodeSegment e sel s).rflags = s.rflags := rfl
@[simp] theorem loadCodeSegment_cr0 (e : Bool) (sel : Selector) (s : State) :
    (loadCodeSegment e sel s).cr0 = s.cr0 := rfl
@[simp] theorem loadCodeSegment_efer (e : Bool) (sel : Selector) (s : State) :
    (loadCodeSegment e sel s).efer = s.efer := rfl
@[simp] theorem loadCodeSegment_sysenterCs (e : Bool) (sel : Selector) (s : State) :
    (loadCodeSegment e sel s).sysenterCs = s.sysenterCs := rfl
@[simp] theorem loadCodeSegment_sysenterEsp (e : Bool) (sel : Selector) (s : State) :
    (loadCodeSegment e sel s).sysenterEsp = s.sysenterEsp := rfl
@[simp] theorem loadCodeSegment_sysenterEip (e : Bool) (sel : Selector) (s : State) :
    (loadCodeSegment e sel s).sysenterEip = s.sysenterEip := rfl
@[simp] theorem loadCodeSegment_pl3Ssp (e : Bool) (sel : Selector) (s : State) :
    (loadCodeSegment e sel s).pl3Ssp = s.pl3Ssp := rfl
@[simp] theorem loadCodeSegment_sCet (e : Bool) (sel : Selector) (s : State) :
    (loadCodeSegment e sel s).sCet = s.sCet := rfl
@[simp] theorem loadCodeSegment_cs (e : Bool) (sel : Selector) (s : State) :
    (loadCodeSegment e sel s).cs = 
      { selector := sel, base := 0#64, limit := 0xFFFFF#20, type := 11#4, s := true,
        dpl := 0#2, p := true, l := e, d := !e, g := true } := rfl
@[simp] theorem loadCodeSegment_ss (e : Bool) (sel : Selector) (s : State) :
    (loadCodeSegment e sel s).ss = s.ss := rfl
@[simp] theorem loadCodeSegment_cpl (e : Bool) (sel : Selector) (s : State) :
    (loadCodeSegment e sel s).cpl = s.cpl := rfl
@[simp] theorem loadCodeSegment_ssp (e : Bool) (sel : Selector) (s : State) :
    (loadCodeSegment e sel s).ssp = s.ssp := rfl
@[simp] theorem loadCodeSegment_otherRegisters (e : Bool) (sel : Selector) (s : State) :
    (loadCodeSegment e sel s).otherRegisters = s.otherRegisters := rfl
@[simp] theorem loadCodeSegment_memory (e : Bool) (sel : Selector) (s : State) :
    (loadCodeSegment e sel s).memory = s.memory := rfl
@[simp] theorem loadCodeSegment_config (e : Bool) (sel : Selector) (s : State) :
    (loadCodeSegment e sel s).config = s.config := rfl
@[simp] theorem loadCodeSegment_draws (e : Bool) (sel : Selector) (s : State) :
    (loadCodeSegment e sel s).draws = s.draws := rfl

@[simp] theorem loadCodeSegment_lma (e : Bool) (sel : Selector) (s : State) : (loadCodeSegment e sel s).lma = s.lma := rfl

/-! Part F of R110 writes IA32_PL3_SSP only. -/

@[simp] theorem saveShadowStack_rip (e : Bool) (s : State) :
    (saveShadowStack e s).rip = s.rip := rfl
@[simp] theorem saveShadowStack_rsp (e : Bool) (s : State) :
    (saveShadowStack e s).rsp = s.rsp := rfl
@[simp] theorem saveShadowStack_edx (e : Bool) (s : State) :
    (saveShadowStack e s).edx = s.edx := rfl
@[simp] theorem saveShadowStack_rflags (e : Bool) (s : State) :
    (saveShadowStack e s).rflags = s.rflags := rfl
@[simp] theorem saveShadowStack_cr0 (e : Bool) (s : State) :
    (saveShadowStack e s).cr0 = s.cr0 := rfl
@[simp] theorem saveShadowStack_efer (e : Bool) (s : State) :
    (saveShadowStack e s).efer = s.efer := rfl
@[simp] theorem saveShadowStack_sysenterCs (e : Bool) (s : State) :
    (saveShadowStack e s).sysenterCs = s.sysenterCs := rfl
@[simp] theorem saveShadowStack_sysenterEsp (e : Bool) (s : State) :
    (saveShadowStack e s).sysenterEsp = s.sysenterEsp := rfl
@[simp] theorem saveShadowStack_sysenterEip (e : Bool) (s : State) :
    (saveShadowStack e s).sysenterEip = s.sysenterEip := rfl
@[simp] theorem saveShadowStack_pl3Ssp (e : Bool) (s : State) :
    (saveShadowStack e s).pl3Ssp = if e = true then (if s.lma = true then laAdjust s.config.linearWidth s.ssp else s.ssp)
      else s.pl3Ssp := rfl
@[simp] theorem saveShadowStack_sCet (e : Bool) (s : State) :
    (saveShadowStack e s).sCet = s.sCet := rfl
@[simp] theorem saveShadowStack_cs (e : Bool) (s : State) :
    (saveShadowStack e s).cs = s.cs := rfl
@[simp] theorem saveShadowStack_ss (e : Bool) (s : State) :
    (saveShadowStack e s).ss = s.ss := rfl
@[simp] theorem saveShadowStack_cpl (e : Bool) (s : State) :
    (saveShadowStack e s).cpl = s.cpl := rfl
@[simp] theorem saveShadowStack_ssp (e : Bool) (s : State) :
    (saveShadowStack e s).ssp = s.ssp := rfl
@[simp] theorem saveShadowStack_otherRegisters (e : Bool) (s : State) :
    (saveShadowStack e s).otherRegisters = s.otherRegisters := rfl
@[simp] theorem saveShadowStack_memory (e : Bool) (s : State) :
    (saveShadowStack e s).memory = s.memory := rfl
@[simp] theorem saveShadowStack_config (e : Bool) (s : State) :
    (saveShadowStack e s).config = s.config := rfl
@[simp] theorem saveShadowStack_draws (e : Bool) (s : State) :
    (saveShadowStack e s).draws = s.draws := rfl

@[simp] theorem saveShadowStack_lma (e : Bool) (s : State) : (saveShadowStack e s).lma = s.lma := rfl

/-! Part G of R110 writes CPL only. -/

@[simp] theorem setLevel0_rip (s : State) : (setLevel0 s).rip = s.rip := rfl
@[simp] theorem setLevel0_rsp (s : State) : (setLevel0 s).rsp = s.rsp := rfl
@[simp] theorem setLevel0_edx (s : State) : (setLevel0 s).edx = s.edx := rfl
@[simp] theorem setLevel0_rflags (s : State) : (setLevel0 s).rflags = s.rflags := rfl
@[simp] theorem setLevel0_cr0 (s : State) : (setLevel0 s).cr0 = s.cr0 := rfl
@[simp] theorem setLevel0_efer (s : State) : (setLevel0 s).efer = s.efer := rfl
@[simp] theorem setLevel0_sysenterCs (s : State) :
    (setLevel0 s).sysenterCs = s.sysenterCs := rfl
@[simp] theorem setLevel0_sysenterEsp (s : State) :
    (setLevel0 s).sysenterEsp = s.sysenterEsp := rfl
@[simp] theorem setLevel0_sysenterEip (s : State) :
    (setLevel0 s).sysenterEip = s.sysenterEip := rfl
@[simp] theorem setLevel0_pl3Ssp (s : State) : (setLevel0 s).pl3Ssp = s.pl3Ssp := rfl
@[simp] theorem setLevel0_sCet (s : State) : (setLevel0 s).sCet = s.sCet := rfl
@[simp] theorem setLevel0_cs (s : State) : (setLevel0 s).cs = s.cs := rfl
@[simp] theorem setLevel0_ss (s : State) : (setLevel0 s).ss = s.ss := rfl
@[simp] theorem setLevel0_cpl (s : State) : (setLevel0 s).cpl = 0#2 := rfl
@[simp] theorem setLevel0_ssp (s : State) : (setLevel0 s).ssp = s.ssp := rfl
@[simp] theorem setLevel0_otherRegisters (s : State) :
    (setLevel0 s).otherRegisters = s.otherRegisters := rfl
@[simp] theorem setLevel0_memory (s : State) : (setLevel0 s).memory = s.memory := rfl
@[simp] theorem setLevel0_config (s : State) : (setLevel0 s).config = s.config := rfl
@[simp] theorem setLevel0_draws (s : State) : (setLevel0 s).draws = s.draws := rfl

@[simp] theorem setLevel0_lma (s : State) : (setLevel0 s).lma = s.lma := rfl

/-! Part H of R110 writes SSP. -/

@[simp] theorem resetShadowStack_rip (e : Bool) (s : State) :
    (resetShadowStack e s).rip = s.rip := rfl
@[simp] theorem resetShadowStack_rsp (e : Bool) (s : State) :
    (resetShadowStack e s).rsp = s.rsp := rfl
@[simp] theorem resetShadowStack_edx (e : Bool) (s : State) :
    (resetShadowStack e s).edx = s.edx := rfl
@[simp] theorem resetShadowStack_rflags (e : Bool) (s : State) :
    (resetShadowStack e s).rflags = s.rflags := rfl
@[simp] theorem resetShadowStack_cr0 (e : Bool) (s : State) :
    (resetShadowStack e s).cr0 = s.cr0 := rfl
@[simp] theorem resetShadowStack_efer (e : Bool) (s : State) :
    (resetShadowStack e s).efer = s.efer := rfl
@[simp] theorem resetShadowStack_sysenterCs (e : Bool) (s : State) :
    (resetShadowStack e s).sysenterCs = s.sysenterCs := rfl
@[simp] theorem resetShadowStack_sysenterEsp (e : Bool) (s : State) :
    (resetShadowStack e s).sysenterEsp = s.sysenterEsp := rfl
@[simp] theorem resetShadowStack_sysenterEip (e : Bool) (s : State) :
    (resetShadowStack e s).sysenterEip = s.sysenterEip := rfl
@[simp] theorem resetShadowStack_pl3Ssp (e : Bool) (s : State) :
    (resetShadowStack e s).pl3Ssp = s.pl3Ssp := rfl
@[simp] theorem resetShadowStack_sCet (e : Bool) (s : State) :
    (resetShadowStack e s).sCet = s.sCet := rfl
@[simp] theorem resetShadowStack_cs (e : Bool) (s : State) :
    (resetShadowStack e s).cs = s.cs := rfl
@[simp] theorem resetShadowStack_ss (e : Bool) (s : State) :
    (resetShadowStack e s).ss = s.ss := rfl
@[simp] theorem resetShadowStack_cpl (e : Bool) (s : State) :
    (resetShadowStack e s).cpl = s.cpl := rfl
@[simp] theorem resetShadowStack_ssp (e : Bool) (s : State) :
    (resetShadowStack e s).ssp = if e = true then 0#64 else s.ssp := rfl
@[simp] theorem resetShadowStack_otherRegisters (e : Bool) (s : State) :
    (resetShadowStack e s).otherRegisters = s.otherRegisters := rfl
@[simp] theorem resetShadowStack_memory (e : Bool) (s : State) :
    (resetShadowStack e s).memory = s.memory := rfl
@[simp] theorem resetShadowStack_config (e : Bool) (s : State) :
    (resetShadowStack e s).config = s.config := rfl
@[simp] theorem resetShadowStack_draws (e : Bool) (s : State) :
    (resetShadowStack e s).draws = s.draws := rfl

@[simp] theorem resetShadowStack_lma (e : Bool) (s : State) : (resetShadowStack e s).lma = s.lma := rfl

/-! and two fields of IA32_S_CET. -/

@[simp] theorem armTracker_rip (e : Bool) (s : State) :
    (armTracker e s).rip = s.rip := rfl
@[simp] theorem armTracker_rsp (e : Bool) (s : State) :
    (armTracker e s).rsp = s.rsp := rfl
@[simp] theorem armTracker_edx (e : Bool) (s : State) :
    (armTracker e s).edx = s.edx := rfl
@[simp] theorem armTracker_rflags (e : Bool) (s : State) :
    (armTracker e s).rflags = s.rflags := rfl
@[simp] theorem armTracker_cr0 (e : Bool) (s : State) :
    (armTracker e s).cr0 = s.cr0 := rfl
@[simp] theorem armTracker_efer (e : Bool) (s : State) :
    (armTracker e s).efer = s.efer := rfl
@[simp] theorem armTracker_sysenterCs (e : Bool) (s : State) :
    (armTracker e s).sysenterCs = s.sysenterCs := rfl
@[simp] theorem armTracker_sysenterEsp (e : Bool) (s : State) :
    (armTracker e s).sysenterEsp = s.sysenterEsp := rfl
@[simp] theorem armTracker_sysenterEip (e : Bool) (s : State) :
    (armTracker e s).sysenterEip = s.sysenterEip := rfl
@[simp] theorem armTracker_pl3Ssp (e : Bool) (s : State) :
    (armTracker e s).pl3Ssp = s.pl3Ssp := rfl
@[simp] theorem armTracker_sCet (e : Bool) (s : State) :
    (armTracker e s).sCet = 
      { s.sCet with
        tracker := if e = true then .waitForEndbranch else s.sCet.tracker,
        suppress := if e = true then false else s.sCet.suppress } := rfl
@[simp] theorem armTracker_cs (e : Bool) (s : State) :
    (armTracker e s).cs = s.cs := rfl
@[simp] theorem armTracker_ss (e : Bool) (s : State) :
    (armTracker e s).ss = s.ss := rfl
@[simp] theorem armTracker_cpl (e : Bool) (s : State) :
    (armTracker e s).cpl = s.cpl := rfl
@[simp] theorem armTracker_ssp (e : Bool) (s : State) :
    (armTracker e s).ssp = s.ssp := rfl
@[simp] theorem armTracker_otherRegisters (e : Bool) (s : State) :
    (armTracker e s).otherRegisters = s.otherRegisters := rfl
@[simp] theorem armTracker_memory (e : Bool) (s : State) :
    (armTracker e s).memory = s.memory := rfl
@[simp] theorem armTracker_config (e : Bool) (s : State) :
    (armTracker e s).config = s.config := rfl
@[simp] theorem armTracker_draws (e : Bool) (s : State) :
    (armTracker e s).draws = s.draws := rfl

@[simp] theorem armTracker_lma (e : Bool) (s : State) : (armTracker e s).lma = s.lma := rfl

/-! Part I of R110 writes SS only. -/

@[simp] theorem loadStackSegment_rip (sel : Selector) (s : State) :
    (loadStackSegment sel s).rip = s.rip := rfl
@[simp] theorem loadStackSegment_rsp (sel : Selector) (s : State) :
    (loadStackSegment sel s).rsp = s.rsp := rfl
@[simp] theorem loadStackSegment_edx (sel : Selector) (s : State) :
    (loadStackSegment sel s).edx = s.edx := rfl
@[simp] theorem loadStackSegment_rflags (sel : Selector) (s : State) :
    (loadStackSegment sel s).rflags = s.rflags := rfl
@[simp] theorem loadStackSegment_cr0 (sel : Selector) (s : State) :
    (loadStackSegment sel s).cr0 = s.cr0 := rfl
@[simp] theorem loadStackSegment_efer (sel : Selector) (s : State) :
    (loadStackSegment sel s).efer = s.efer := rfl
@[simp] theorem loadStackSegment_sysenterCs (sel : Selector) (s : State) :
    (loadStackSegment sel s).sysenterCs = s.sysenterCs := rfl
@[simp] theorem loadStackSegment_sysenterEsp (sel : Selector) (s : State) :
    (loadStackSegment sel s).sysenterEsp = s.sysenterEsp := rfl
@[simp] theorem loadStackSegment_sysenterEip (sel : Selector) (s : State) :
    (loadStackSegment sel s).sysenterEip = s.sysenterEip := rfl
@[simp] theorem loadStackSegment_pl3Ssp (sel : Selector) (s : State) :
    (loadStackSegment sel s).pl3Ssp = s.pl3Ssp := rfl
@[simp] theorem loadStackSegment_sCet (sel : Selector) (s : State) :
    (loadStackSegment sel s).sCet = s.sCet := rfl
@[simp] theorem loadStackSegment_cs (sel : Selector) (s : State) :
    (loadStackSegment sel s).cs = s.cs := rfl
@[simp] theorem loadStackSegment_ss (sel : Selector) (s : State) :
    (loadStackSegment sel s).ss = 
      { selector := stackSelector sel, base := 0#64, limit := 0xFFFFF#20, type := 3#4,
        s := true, dpl := 0#2, p := true, b := true, g := true } := rfl
@[simp] theorem loadStackSegment_cpl (sel : Selector) (s : State) :
    (loadStackSegment sel s).cpl = s.cpl := rfl
@[simp] theorem loadStackSegment_ssp (sel : Selector) (s : State) :
    (loadStackSegment sel s).ssp = s.ssp := rfl
@[simp] theorem loadStackSegment_otherRegisters (sel : Selector) (s : State) :
    (loadStackSegment sel s).otherRegisters = s.otherRegisters := rfl
@[simp] theorem loadStackSegment_memory (sel : Selector) (s : State) :
    (loadStackSegment sel s).memory = s.memory := rfl
@[simp] theorem loadStackSegment_config (sel : Selector) (s : State) :
    (loadStackSegment sel s).config = s.config := rfl
@[simp] theorem loadStackSegment_draws (sel : Selector) (s : State) :
    (loadStackSegment sel s).draws = s.draws := rfl

@[simp] theorem loadStackSegment_lma (sel : Selector) (s : State) : (loadStackSegment sel s).lma = s.lma := rfl

/-! Parts C to I together, whatever the two CET predicates are. -/

section
variable (P Q : State → Level → Bool) (s : State)

@[simp] theorem enterLevel0_rip :
    (enterLevel0 P Q s).rip = if s.lma = true then s.sysenterEip else lowHalfLoaded s.sysenterEip (s.draws + 1) := rfl
@[simp] theorem enterLevel0_rsp :
    (enterLevel0 P Q s).rsp = if s.lma = true then s.sysenterEsp else lowHalfLoaded s.sysenterEsp s.draws := rfl
@[simp] theorem enterLevel0_edx :
    (enterLevel0 P Q s).edx = s.edx := rfl
@[simp] theorem enterLevel0_rflags :
    (enterLevel0 P Q s).rflags = { s.rflags with vm := false, if_ := false } := rfl
@[simp] theorem enterLevel0_cr0 :
    (enterLevel0 P Q s).cr0 = s.cr0 := rfl
@[simp] theorem enterLevel0_efer :
    (enterLevel0 P Q s).efer = s.efer := rfl
@[simp] theorem enterLevel0_sysenterCs :
    (enterLevel0 P Q s).sysenterCs = s.sysenterCs := rfl
@[simp] theorem enterLevel0_sysenterEsp :
    (enterLevel0 P Q s).sysenterEsp = s.sysenterEsp := rfl
@[simp] theorem enterLevel0_sysenterEip :
    (enterLevel0 P Q s).sysenterEip = s.sysenterEip := rfl
@[simp] theorem enterLevel0_pl3Ssp :
    (enterLevel0 P Q s).pl3Ssp = if P (beforeCet s) s.cpl = true then
        (if s.lma = true then laAdjust s.config.linearWidth s.ssp else s.ssp)
      else s.pl3Ssp := rfl
@[simp] theorem enterLevel0_sCet :
    (enterLevel0 P Q s).sCet = 
      { s.sCet with
        tracker := if Q (beforeTracker P s) 0#2 = true then .waitForEndbranch else s.sCet.tracker,
        suppress := if Q (beforeTracker P s) 0#2 = true then false else s.sCet.suppress } := rfl
@[simp] theorem enterLevel0_cs :
    (enterLevel0 P Q s).cs = 
      { selector := codeSelector s.sysenterCs, base := 0#64, limit := 0xFFFFF#20, type := 11#4, s := true,
        dpl := 0#2, p := true, l := s.lma, d := !s.lma, g := true } := rfl
@[simp] theorem enterLevel0_ss :
    (enterLevel0 P Q s).ss = 
      { selector := stackSelector (codeSelector s.sysenterCs),
        base := 0#64, limit := 0xFFFFF#20, type := 3#4,
        s := true, dpl := 0#2, p := true, b := true, g := true } := rfl
@[simp] theorem enterLevel0_cpl :
    (enterLevel0 P Q s).cpl = 0#2 := rfl
@[simp] theorem enterLevel0_ssp :
    (enterLevel0 P Q s).ssp = if P (atLevel0 P s) 0#2 = true then 0#64 else s.ssp := rfl
@[simp] theorem enterLevel0_otherRegisters :
    (enterLevel0 P Q s).otherRegisters = s.otherRegisters := rfl
@[simp] theorem enterLevel0_memory :
    (enterLevel0 P Q s).memory = s.memory := rfl
@[simp] theorem enterLevel0_config :
    (enterLevel0 P Q s).config = s.config := rfl
@[simp] theorem enterLevel0_draws :
    (enterLevel0 P Q s).draws = if s.lma = true then s.draws else s.draws + 2 := rfl
@[simp] theorem enterLevel0_lma : (enterLevel0 P Q s).lma = s.lma := rfl

@[simp] theorem beforeCet_config : (beforeCet s).config = s.config := rfl
@[simp] theorem beforeCet_lma : (beforeCet s).lma = s.lma := rfl
@[simp] theorem atLevel0_config : (atLevel0 P s).config = s.config := rfl
@[simp] theorem atLevel0_lma : (atLevel0 P s).lma = s.lma := rfl
@[simp] theorem beforeTracker_config : (beforeTracker P s).config = s.config := rfl
@[simp] theorem beforeTracker_lma : (beforeTracker P s).lma = s.lma := rfl

end

end Sys2Proof.Machine
end

