-- ==== Sys2Proof/Laws/Sysenter.lean ====
section
/-! SUPPORT. What the two meanings and the step can do, once, for the proofs to cite. -/

namespace Sys2Proof.Machine

open Sys2Proof.Safety

/-- Where SYSENTER runs, its next state is parts C to I of R110. -/
theorem execSysenter_of_runs {s : State} (h : Runs s) :
    execSysenter s = .next (enterLevel0 shadowStackEnabled endbranchEnabled s) := by
  obtain ⟨⟨h1, h2⟩, h3, h4, h5, h6⟩ := h
  simp [execSysenter, h1, h2, h3, h4, h5, h6]

/-- All that SYSENTER can do: complete, fault with #GP(0), or be refused in one of four ways, each under its
own condition. -/
theorem execSysenter_cases (s : State) :
    (Runs s ∧ execSysenter s = .next (enterLevel0 shadowStackEnabled endbranchEnabled s)) ∨
    (Admitted s ∧ (s.cr0.pe = false ∨ nullSelector s.sysenterCs = true) ∧
      execSysenter s = .fault (.generalProtection 0)) ∨
    (sysenterSupported s.config = false ∧ execSysenter s = .refused .unsupported) ∨
    (sysenterSupported s.config = true ∧ msrsCanonical s = false ∧
      execSysenter s = .refused .noncanonicalMsr) ∨
    (Admitted s ∧ s.cr0.pe = true ∧ nullSelector s.sysenterCs = false ∧
      selectorFits (codeSelector s.sysenterCs) = false ∧ execSysenter s = .refused .selectorOverflow) ∨
    (Admitted s ∧ s.cr0.pe = true ∧ nullSelector s.sysenterCs = false ∧
      selectorFits (codeSelector s.sysenterCs) = true ∧ v86WithCet s = true ∧
      execSysenter s = .refused .v86Cet) := by
  cases h1 : sysenterSupported s.config with
  | false => exact .inr (.inr (.inl ⟨rfl, by simp [execSysenter, h1]⟩))
  | true =>
    cases h2 : msrsCanonical s with
    | false => exact .inr (.inr (.inr (.inl ⟨rfl, rfl, by simp [execSysenter, h1, h2]⟩)))
    | true =>
      by_cases h3 : s.cr0.pe = false ∨ nullSelector s.sysenterCs = true
      · exact .inr (.inl ⟨⟨h1, h2⟩, h3, by simp only [execSysenter, h1, h2, if_pos h3, raise]; rfl⟩)
      · have hpe : s.cr0.pe = true := by simpa using fun e => h3 (.inl e)
        have hn : nullSelector s.sysenterCs = false := by simpa using fun e => h3 (.inr e)
        cases h4 : selectorFits (codeSelector s.sysenterCs) with
        | false =>
          exact .inr (.inr (.inr (.inr (.inl ⟨⟨h1, h2⟩, hpe, hn, rfl,
            by simp [execSysenter, h1, h2, hpe, hn, h4]⟩))))
        | true =>
          cases h5 : v86WithCet s with
          | true =>
            exact .inr (.inr (.inr (.inr (.inr ⟨⟨h1, h2⟩, hpe, hn, rfl, rfl,
              by simp [execSysenter, h1, h2, hpe, hn, h4, h5]⟩))))
          | false => exact .inl ⟨⟨⟨h1, h2⟩, hpe, hn, h4, h5⟩, execSysenter_of_runs ⟨⟨h1, h2⟩, hpe, hn, h4, h5⟩⟩

/-- If SYSENTER completes, it ran, and the next state is parts C to I of R110. -/
theorem execSysenter_next {s t : State} (h : execSysenter s = .next t) :
    Runs s ∧ t = enterLevel0 shadowStackEnabled endbranchEnabled s := by
  rcases execSysenter_cases s with ⟨hr, e⟩ | ⟨-, -, e⟩ | ⟨-, e⟩ | ⟨-, -, e⟩ | ⟨-, -, -, -, e⟩ | ⟨-, -, -, -, -, e⟩ <;>
    rw [e] at h
  · exact ⟨hr, (Host.Outcome.next.inj h).symm⟩
  all_goals cases h

/-- Which outcome SYSENTER has is a function of the processor, CR0, the three MSRs and, for `v86_cet` alone,
of VM on a processor with CET. -/
theorem execSysenter_sameOutcome {s s' : State} (hc : s'.config = s.config) (h0 : s'.cr0 = s.cr0)
    (h4 : s'.sysenterCs = s.sysenterCs) (h5 : s'.sysenterEsp = s.sysenterEsp)
    (h6 : s'.sysenterEip = s.sysenterEip) :
    (∀ f, execSysenter s' = .fault f ↔ execSysenter s = .fault f) ∧
    (v86WithCet s' = v86WithCet s →
      ((∃ u, execSysenter s' = .next u) ↔ ∃ t, execSysenter s = .next t) ∧
      ∀ r, execSysenter s' = .refused r ↔ execSysenter s = .refused r) := by
  have hm : msrsCanonical s' = msrsCanonical s := by simp only [msrsCanonical, hc, h5, h6]
  simp only [execSysenter, hc, h0, h4, hm]
  split
  · simp
  split
  · simp
  split
  · simp [raise]
  split
  · simp
  refine ⟨fun f => ?_, fun hv => ?_⟩
  · split <;> split <;> simp
  · rw [hv]; split <;> simp

/-- Where SYSENTER lands is a function of the processor, IA32_EFER and the three MSRs, whatever the two
predicates are. -/
theorem enterLevel0_sameLanding {s s' : State} (hc : s'.config = s.config) (he : s'.efer = s.efer)
    (h4 : s'.sysenterCs = s.sysenterCs) (h5 : s'.sysenterEsp = s.sysenterEsp)
    (h6 : s'.sysenterEip = s.sysenterEip) (P Q : State → Level → Bool) :
    SameLanding (enterLevel0 P Q s) (enterLevel0 P Q s') := by
  have hl : s'.lma = s.lma := by simp only [State.lma, hc, he]
  constructor
  case eip => simp only [enterLevel0_rip, hl, h6]; split <;> simp
  case esp => simp only [enterLevel0_rsp, hl, h5]; split <;> simp
  case rip => intro h; have h : s.lma = true := h; simp only [enterLevel0_rip, hl, h, h6, if_true]
  case rsp => intro h; have h : s.lma = true := h; simp only [enterLevel0_rsp, hl, h, h5, if_true]
  case cs => simp only [enterLevel0_cs, hl, h4]
  case ss => simp only [enterLevel0_ss, h4]
  all_goals simp

/-- LOCK SYSENTER never completes. -/
theorem execLockSysenter_ne_next (s t : State) : execLockSysenter s ≠ .next t := by
  unfold execLockSysenter raise
  split <;> simp

/-- If a step completes, it was a SYSENTER that ran. -/
theorem step_next {s t : State} (h : step s = .next t) :
    fetch s = .ok .sysenter ∧ Runs s ∧ t = enterLevel0 shadowStackEnabled endbranchEnabled s := by
  unfold step at h
  split at h
  · cases h
  · next i hi =>
    cases i with
    | sysenter => exact ⟨hi, execSysenter_next h⟩
    | lockSysenter => exact absurd h (execLockSysenter_ne_next s t)

end Sys2Proof.Machine
end

