-- ==== Sys2Proof/Laws/Run.lean ====
section
/-! SUPPORT. Runs of several steps: one step taken off, and the induction over a run, once. -/

namespace Sys2Proof.Machine

/-- A run that completes begins with a step that completes. -/
theorem run_succ_next {M : Host.Core} {k : Nat} {s t : M.State} (h : M.run (k + 1) s = .next t) :
    ∃ s', M.step s = .next s' ∧ M.run k s' = .next t := by
  simp only [Host.Core.run] at h
  split at h
  · next s' hs => exact ⟨s', hs, h⟩
  · cases h
  · cases h

/-- What every step keeps, every run keeps. -/
theorem run_keeps {p : State → Prop} (hstep : ∀ s t, p s → step s = .next t → p t) :
    ∀ (k : Nat) (s t : State), p s → Sys2Proof.core.run k s = .next t → p t
  | 0, s, t, hs, h => by cases h; exact hs
  | k + 1, s, t, hs, h =>
    have ⟨s', h1, h2⟩ := run_succ_next (M := Sys2Proof.core) h
    run_keeps hstep k s' t (hstep s s' hs h1) h2

end Sys2Proof.Machine
end

