-- ==== Sys2Proof/Tests/Slice0.lean ====
section
/-! SUPPORT. Tests, with expected results from spec/95_test_vectors.md, and for every statement that has
hypotheses a witness that meets them. -/

namespace Sys2Proof.Tests

open Sys2Proof.Machine Sys2Proof.Safety

/-! ### Well-formedness: one ill-formed configuration per check -/

theorem test_wf_accepts : Config.wf Config.reset ∧ Instr.wf .sysenter ∧ Instr.wf .lockSysenter := by decide

theorem test_wf_refuses_width_0 : ¬ Config.wf { Config.reset with linearWidth := 0 } := by decide

theorem test_wf_refuses_width_65 : ¬ Config.wf { Config.reset with linearWidth := 65 } := by decide

theorem test_wf_refuses_falling_translation :
    ¬ Config.wf { Config.reset with translation := [(2, none), (1, none)] } := by decide

theorem test_wf_refuses_listed_identity :
    ¬ Config.wf { Config.reset with translation := [(1, some 1)] } := by decide

theorem test_wf_refuses_wide_address :
    ¬ Config.wf { Config.reset with translation := [(2 ^ 64, none)] } := by decide

/-! ### Decoding: words written out bit by bit from the opcode table (R90, R93), and V21 -/

theorem test_decode_sysenter : decode [0b00001111#8, 0b00110100#8] = .ok (.sysenter, []) := rfl

theorem test_decode_lock_sysenter :
    decode [0b11110000#8, 0b00001111#8, 0b00110100#8] = .ok (.lockSysenter, []) := rfl

theorem test_table_words :
    decodeTableWord 16 0b0000111100110100 = some .sysenter ∧
    decodeTableWord 24 0b111100000000111100110100 = some .lockSysenter := by decide

/-- V21. -/
theorem test_decode_refuses :
    decode [0x0F#8, 0x33#8] = .error .notShown ∧ decode [0x90#8] = .error .notShown ∧
    decode [0xF0#8, 0xF0#8, 0x0F#8, 0x34#8] = .error .notShown ∧ decode [0x0F#8] = .error .truncated :=
  ⟨rfl, rfl, rfl, rfl⟩

/-! ### The operations -/

/-- V2, V5, V11 (the sum's limit) and V3, V4 (null selectors). -/
theorem test_selector_arithmetic :
    codeSelector 0x63#64 = 0x60#16 ∧ stackSelector 0x60#16 = 0x68#16 ∧
    stackSelector (codeSelector 0x4#64) = 0xC#16 ∧ stackSelector (codeSelector 0xFFF7#64) = 0xFFFC#16 ∧
    selectorFits (codeSelector 0xFFF7#64) = true ∧ selectorFits (codeSelector 0xFFF8#64) = false ∧ selectorFits (codeSelector 0xFFFF#64) = false ∧
    nullSelector 0x3#64 = true ∧ nullSelector 0xFFFFFFFFFFFF0000#64 = true ∧ nullSelector 0x4#64 = false := by
  decide

/-- Rows of V14. -/
theorem test_la_adjust :
    laAdjust 48 0x0000800000000000#64 = 0xFFFF800000000000#64 ∧
    laAdjust 48 0x123456789ABCDEF0#64 = 0x000056789ABCDEF0#64 ∧
    laAdjust 48 0xFFFF000000000000#64 = 0#64 ∧
    laAdjust 57 0x0100000000000000#64 = 0xFF00000000000000#64 ∧
    canonical 48 0x00007FFFFFFFFFFF#64 = true ∧ canonical 48 0x0000800000000000#64 = false ∧
    canonical 57 0x0000800000000000#64 = true ∧ canonical 64 0x123456789ABCDEF0#64 = true := by
  decide

/-- The rows of S2. -/
theorem test_support_check :
    sysenterSupported { Config.reset with family := 6, model := 1, stepping := 2 } = false ∧
    sysenterSupported { Config.reset with family := 6, model := 2, stepping := 3 } = true ∧
    sysenterSupported { Config.reset with family := 6, model := 3, stepping := 0 } = true ∧
    sysenterSupported { Config.reset with family := 5, model := 1, stepping := 1 } = true ∧
    sysenterSupported { Config.reset with cpuidSep := false } = false := by
  decide

/-! ### States to start from -/

/-- The start of V1: 32-bit protected mode, level 3. -/
def v1 : State :=
  { State.reset with
    cr0 := { State.reset.cr0 with pe := true }
    rflags := { State.reset.rflags with if_ := true }
    cs := { State.reset.cs with base := 0#64, d := true }
    rip := 0x00401000#64
    cpl := 3#2
    sysenterCs := 0x10#64
    sysenterEsp := 0x80100000#64
    sysenterEip := 0x80001000#64 }

/-- The start of V6: 64-bit mode, level 3. -/
def v6 : State :=
  { v1 with
    efer := { v1.efer with lma := true }
    cs := { v1.cs with l := true, d := false }
    sysenterEsp := 0xFFFF800000100000#64
    sysenterEip := 0xFFFFFFFF81000000#64 }

/-- The start of V7: compatibility mode. -/
def v7 : State := { v6 with cs := { v6.cs with l := false, d := true } }

/-- The start of V8: virtual-8086 mode; on a processor with CET too. -/
def v8 : State := { v1 with rflags := { v1.rflags with vm := true } }
def v8Cet : State := { v8 with config := { v8.config with cetPresent := true } }

/-- The start of V18. -/
def v18 : State := { v1 with config := { v1.config with cpuidSep := false } }

/-- The next state, or `s` itself where there is none. -/
def nextOr (s : State) : Host.Outcome State Fault Refusal → State
  | .next t => t
  | _ => s

/-! ### The instructions, one step each -/

/-- V7: the caller lands in 64-bit mode with all 64 bits of the pointers, on the fixed caches. -/
theorem test_sysenter_from_compatibility_mode :
    let t := nextOr v7 (exec .sysenter v7)
    t.rip = 0xFFFFFFFF81000000#64 ∧ t.rsp = 0xFFFF800000100000#64 ∧ t.mode = .mode64 ∧ t.cpl = 0#2 ∧
    t.cs = ⟨0x10#16, 0#64, 0xFFFFF#20, 11#4, true, 0#2, true, true, false, true⟩ ∧
    t.ss = ⟨0x18#16, 0#64, 0xFFFFF#20, 3#4, true, 0#2, true, true, true⟩ ∧
    t.rflags.if_ = false ∧ t.draws = 0 := by decide

/-- V15 case d: the saved SSP is adjusted; and case b: outside IA-32e mode it is saved as it is, before SSP
becomes 0. The predicates are the vector's constants. -/
theorem test_sysenter_shadow_stack :
    (enterLevel0 (fun _ level => decide (level = 3#2)) (fun _ _ => false)
      { v6 with ssp := 0x0000800000001000#64 }).pl3Ssp = 0xFFFF800000001000#64 ∧
    (let t := enterLevel0 (fun _ _ => true) (fun _ _ => true) { v1 with ssp := 0x70000FF8#64 }
     t.pl3Ssp = 0x70000FF8#64 ∧ t.ssp = 0#64 ∧ t.sCet.tracker = .waitForEndbranch) := by decide

/-- V10: #UD in real-address mode too, where the plain form gives #GP(0). -/
theorem test_lock_sysenter_in_real_address_mode :
    exec .lockSysenter State.reset = .fault .invalidOpcode ∧
    exec .sysenter State.reset = .fault (.generalProtection 0) := ⟨rfl, rfl⟩

/-- V18. -/
theorem test_lock_sysenter_unsupported : exec .lockSysenter v18 = .refused .unsupported := rfl

/-! ### Witnesses: states that meet the hypotheses of the statements, all together -/

theorem witness_runs_protected : Runs v1 ∧ v1.lma = false ∧ v1.mode = .protectedMode := by decide

theorem witness_runs_ia32e : Runs v6 ∧ v6.lma = true ∧ v6.mode = .mode64 := by decide

theorem witness_runs_compatibility : Runs v7 ∧ v7.mode = .compatibility := by decide

theorem witness_runs_virtual8086 :
    (Runs v8 ∧ v8.mode = .virtual8086) ∧
    (Admitted v8Cet ∧ v8Cet.mode = .virtual8086 ∧ v8Cet.config.cetPresent = true ∧
      v8Cet.sysenterCs.extractLsb' 2 14 ≠ 0#14 ∧ (v8Cet.sysenterCs.setWidth 16).toNat < 0xFFF8) := by decide

/-- SelectorArithmetic: the last selector whose sum fits, and the first whose sum does not. -/
theorem witness_selector_limit :
    Runs { v1 with sysenterCs := 0xFFF7#64 } ∧
    (Admitted { v6 with sysenterCs := 0xFFF8#64 } ∧ v6.cr0.pe = true ∧
      0xFFF8 ≤ ((0xFFF8#64 : Word).setWidth 16).toNat) := by decide

/-- OutcomePerMode: one state per clause, the last clause's three cases in turn. -/
theorem witness_outcome_clauses :
    (Admitted State.reset ∧ State.reset.mode = .realAddress) ∧
    (Admitted { v1 with sysenterCs := 3#64 } ∧ { v1 with sysenterCs := 3#64 }.mode ≠ .realAddress ∧
      (3#64 : Word).extractLsb' 2 14 = 0#14) ∧
    (Admitted { v1 with sysenterCs := 0xFFF8#64 } ∧ v1.mode ≠ .realAddress ∧
      (0xFFF8#64 : Word).extractLsb' 2 14 ≠ 0#14 ∧ 0xFFF8 ≤ ((0xFFF8#64 : Word).setWidth 16).toNat) ∧
    (Admitted v8Cet ∧ v8Cet.mode ≠ .realAddress ∧ v8Cet.sysenterCs.extractLsb' 2 14 ≠ 0#14 ∧
      v8Cet.rflags.vm = true ∧ v8Cet.config.cetPresent = true) ∧
    (Admitted { v1 with sysenterCs := 4#64 } ∧ { v1 with sysenterCs := 4#64 }.mode ≠ .realAddress ∧
      (4#64 : Word).extractLsb' 2 14 ≠ 0#14) := by decide

/-- SysenterRefusals: each refusal is made, in the vectors' states (V18, V17, V11, V8). -/
theorem witness_refusals :
    exec .sysenter v18 = .refused .unsupported ∧
    exec .sysenter { v6 with sysenterEsp := 0x0000800000000000#64 } = .refused .noncanonicalMsr ∧
    exec .sysenter { v1 with sysenterCs := 0xFFF8#64 } = .refused .selectorOverflow ∧
    exec .sysenter v8Cet = .refused .v86Cet := ⟨rfl, rfl, rfl, rfl⟩

theorem witness_lock_clauses :
    sysenterSupported v1.config = true ∧ sysenterSupported v18.config = false := by decide

/-- The statements about a next state of SYSENTER: v1 outside and v6 in IA-32e mode; no CET, so each predicate of the frame is false. -/
theorem witness_sysenter_completes :
    exec .sysenter v1 = .next (enterLevel0 shadowStackEnabled endbranchEnabled v1) ∧
    exec .sysenter v6 = .next (enterLevel0 shadowStackEnabled endbranchEnabled v6) ∧
    v6.lma = true ∧ v6.config.cetPresent = false ∧
    shadowStackEnabled (beforeCet v6) v6.cpl = false ∧
    shadowStackEnabled (atLevel0 shadowStackEnabled v6) 0#2 = false ∧
    endbranchEnabled (beforeTracker shadowStackEnabled v6) 0#2 = false :=
  ⟨execSysenter_of_runs (by decide), execSysenter_of_runs (by decide), by decide⟩

/-- FlagsAffected: the same caller with other flags, VM among them, completes; and with CET, VM being the
same, the clause about outcomes has a caller too. -/
theorem witness_other_flags :
    exec .sysenter { v6 with rflags := ⟨true, false, 3⟩ } =
      .next (enterLevel0 shadowStackEnabled endbranchEnabled { v6 with rflags := ⟨true, false, 3⟩ }) ∧
    (v6.config.cetPresent = true → true = v6.rflags.vm) ∧
    (v8Cet.config.cetPresent = true ∧ (⟨true, false, 3⟩ : RFlags).vm = v8Cet.rflags.vm) :=
  ⟨execSysenter_of_runs (by decide), by decide⟩

/-- NoPrivilegeCheck: both levels complete. -/
theorem witness_other_level :
    exec .sysenter { v6 with cpl := 0#2 } =
      .next (enterLevel0 shadowStackEnabled endbranchEnabled { v6 with cpl := 0#2 }) :=
  execSysenter_of_runs (by decide)

/-- CallerStateIsLost: two callers that share what it asks and differ in the rest. -/
theorem witness_two_callers :
    let s' : State :=
      { v7 with
        rip := 0#64, rsp := 1#64, cpl := 0#2
        rflags := ⟨true, true, 5⟩, ss := { v7.ss with selector := 0x2B#16 } }
    s'.config = v6.config ∧ s'.cr0 = v6.cr0 ∧ s'.efer = v6.efer ∧ s'.sysenterCs = v6.sysenterCs ∧
    s'.sysenterEsp = v6.sysenterEsp ∧ s'.sysenterEip = v6.sysenterEip ∧
    (s'.rflags.vm = true → s'.config.cetPresent = false) ∧ s' ≠ v6 := by decide

/-- StepRunsDecodedInstruction. -/
theorem witness_decoded_instruction :
    fetchBytes (v6.withFetchWord 16 0x0F34) = some [0x0F#8, 0x34#8] ∧
    decode [0x0F#8, 0x34#8] = .ok (.sysenter, []) ∧ Instr.wf .sysenter = true := ⟨by decide, rfl, rfl⟩

theorem fetch_loaded_v6 : fetch (v6.withFetchWord 16 0x0F34) = .ok .sysenter := rfl

/-- StepCompletesOnlyAtSysenter and the statements about runs: a step that completes. -/
theorem witness_step_completes :
    step (v6.withFetchWord 16 0x0F34) =
      .next (enterLevel0 shadowStackEnabled endbranchEnabled (v6.withFetchWord 16 0x0F34)) := by
  rw [step, fetch_loaded_v6]
  exact execSysenter_of_runs (by decide)

/-- RunKeepsProcessorState and RunLandsAtLevel0: a run of one step. -/
theorem witness_run_completes :
    Sys2Proof.core.run 1 (v6.withFetchWord 16 0x0F34) =
      .next (enterLevel0 shadowStackEnabled endbranchEnabled (v6.withFetchWord 16 0x0F34)) := by
  have h : Sys2Proof.core.step (v6.withFetchWord 16 0x0F34) = _ := witness_step_completes
  simp only [Host.Core.run, h]

/-- StepKeepsHardwareState: the state before that step. -/
theorem witness_hardware_state : Inv (v6.withFetchWord 16 0x0F34) :=
  ⟨by decide, by decide, by decide, by decide, by decide, by decide⟩

/-- LaAdjustSignExtends: the bounds of the width and of the bit, for both clauses. -/
theorem witness_la_adjust_bounds :
    ((1 ≤ 1 ∧ 1 ≤ 64 ∧ 0 < 1) ∧ (1 ≤ 64 ∧ 64 ≤ 64 ∧ 63 < 64)) ∧
    ((1 ≤ 1 ∧ 1 ≤ 64 ∧ 1 ≤ 63 ∧ 63 < 64) ∧ (1 ≤ 63 ∧ 63 ≤ 64 ∧ 63 ≤ 63 ∧ 63 < 64)) := by decide

/-- ModeOfState and SysenterMsrNumbers: a processor with and one without IA-32e mode; an unlisted number. -/
theorem witness_mode_and_msr_clauses :
    v6.config.intel64 = true ∧ { v6.config with intel64 := false }.intel64 = false ∧
    (0x173 ≠ 0x174 ∧ 0x173 ≠ 0x175 ∧ 0x173 ≠ 0x176) ∧ (0x177 ≠ 0x174 ∧ 0x177 ≠ 0x175 ∧ 0x177 ≠ 0x176) := by
  decide

end Sys2Proof.Tests
end

section
/-! PROOFS of the family 00_scope: the fetch of R74 case by case, what keeps the invariant of the hardware's
states, and the statements settled from them (O27, O5, O7, O4, O28). -/

namespace Sys2Proof

/-! ### The decoder on the bytes a fetch reads (R97) -/

theorem decode_opcodeByte0 (b1 : Byte) :
    decode [opcodeByte0, b1] = if b1 = opcodeByte1 then .ok (.sysenter, []) else .error .notShown := by
  have h : opcodeByte0 ≠ lockPrefix := by decide
  simp [decode, decodeSecondByte, h]

theorem decode_lockPrefix (b1 b2 : Byte) :
    decode [lockPrefix, b1, b2] =
      if b1 = opcodeByte0 ∧ b2 = opcodeByte1 then .ok (.lockSysenter, []) else .error .notShown := by
  by_cases h1 : b1 = opcodeByte0 <;> simp [decode, decodeAfterLock, decodeSecondByte, h1]

theorem decode_of_other_first {b0 : Byte} (hl : b0 ≠ lockPrefix) (ho : b0 ≠ opcodeByte0) (bs : List Byte) :
    decode (b0 :: bs) = .error .notShown := by
  simp [decode, hl, ho]

theorem fetchLength_lockPrefix : fetchLength lockPrefix = 3 := rfl

theorem fetchLength_opcodeByte0 : fetchLength opcodeByte0 = 2 := by decide

theorem fetchLength_of_other {b0 : Byte} (hl : b0 ≠ lockPrefix) (ho : b0 ≠ opcodeByte0) : fetchLength b0 = 1 := by
  simp [fetchLength, hl, ho]

end Sys2Proof

namespace Sys2Proof.Machine

open Sys2Proof.Safety

/-! ### The bytes read (R74) -/

@[simp] theorem readCodeBytes_zero (s : State) (la : Word) : readCodeBytes s la 0 = some [] := by
  rw [readCodeBytes]

/-- A run of bytes is its first byte and the run one address on. -/
theorem readCodeBytes_succ (s : State) (la : Word) (n : Nat) :
    readCodeBytes s la (n + 1) =
      (readCode s la).bind fun b => (readCodeBytes s (la + 1#64) n).map (b :: ·) := by
  rw [readCodeBytes]
  cases readCode s la with
  | none => rfl
  | some b => cases readCodeBytes s (la + 1#64) n <;> simp

/-- How many bytes a fetch reads is the first byte's to say. -/
theorem fetchBytes_of_first {s : State} {b0 : Byte} (h0 : readCode s (fetchAddress s) = some b0) :
    fetchBytes s = readCodeBytes s (fetchAddress s) (fetchLength b0) := by
  simp [fetchBytes, h0]

/-- The second address after the first, counted at once (log 15). -/
theorem linear_add_one_add_one (la : Word) : la + 1#64 + 1#64 = la + 2#64 := by bv_omega

/-! ### The verdict of the fetch, by the bytes at the fetch address -/

section
variable {s : State}

theorem fetch_of_decode {bytes rest : List Byte} {i : Instr} (hb : fetchBytes s = some bytes)
    (hd : decode bytes = .ok (i, rest)) : fetch s = .ok i := by
  simp [fetch, hb, hd]

theorem fetch_of_unread (h0 : readCode s (fetchAddress s) = none) : fetch s = .error .fetchUnmodelled := by
  simp [fetch, fetchBytes, h0]

theorem fetch_of_other_first {b0 : Byte} (h0 : readCode s (fetchAddress s) = some b0)
    (hl : b0 ≠ lockPrefix) (ho : b0 ≠ opcodeByte0) : fetch s = .error .notShown := by
  have hb : fetchBytes s = some [b0] := by
    simp [fetchBytes_of_first h0, fetchLength_of_other hl ho, readCodeBytes_succ, h0]
  simp [fetch, hb, decode_of_other_first hl ho, decodeRefusal]

/-- After `0F` one more byte is read, and it decides. -/
theorem fetch_of_opcodeByte0 (h0 : readCode s (fetchAddress s) = some opcodeByte0) :
    fetch s = (readCode s (fetchAddress s + 1#64)).elim (.error .fetchUnmodelled) fun b1 =>
      if b1 = opcodeByte1 then .ok .sysenter else .error .notShown := by
  have hb : fetchBytes s = (readCode s (fetchAddress s + 1#64)).map fun b1 => [opcodeByte0, b1] := by
    simp [fetchBytes_of_first h0, fetchLength_opcodeByte0, readCodeBytes_succ, h0,
      Option.map_eq_bind, Option.bind_assoc]
  cases h1 : readCode s (fetchAddress s + 1#64) with
  | none => simp [fetch, hb, h1]
  | some b1 =>
    by_cases e : b1 = opcodeByte1 <;> simp [fetch, hb, h1, decode_opcodeByte0, e, decodeRefusal]

/-- After the LOCK byte two more bytes are read, and they decide. -/
theorem fetch_of_lockPrefix (h0 : readCode s (fetchAddress s) = some lockPrefix) :
    fetch s = (readCode s (fetchAddress s + 1#64)).elim (.error .fetchUnmodelled) fun b1 =>
      (readCode s (fetchAddress s + 2#64)).elim (.error .fetchUnmodelled) fun b2 =>
        if b1 = opcodeByte0 ∧ b2 = opcodeByte1 then .ok .lockSysenter else .error .notShown := by
  have hb : fetchBytes s = (readCode s (fetchAddress s + 1#64)).bind fun b1 =>
      (readCode s (fetchAddress s + 2#64)).map fun b2 => [lockPrefix, b1, b2] := by
    simp [fetchBytes_of_first h0, fetchLength_lockPrefix, readCodeBytes_succ, h0,
      linear_add_one_add_one, Option.map_eq_bind, Option.bind_assoc]
  cases h1 : readCode s (fetchAddress s + 1#64) with
  | none => simp [fetch, hb, h1]
  | some b1 =>
    cases h2 : readCode s (fetchAddress s + 2#64) with
    | none => simp [fetch, hb, h1, h2]
    | some b2 =>
      by_cases e : b1 = opcodeByte0 ∧ b2 = opcodeByte1 <;>
        simp [fetch, hb, h1, h2, decode_lockPrefix, e, decodeRefusal]

/-- The fetch answers SYSENTER only where its two bytes stand (R90). -/
theorem readCode_of_fetch_sysenter (h : fetch s = .ok .sysenter) :
    readCode s (fetchAddress s) = some opcodeByte0 ∧
    readCode s (fetchAddress s + 1#64) = some opcodeByte1 := by
  cases h0 : readCode s (fetchAddress s) with
  | none => simp [fetch_of_unread h0] at h
  | some b0 =>
    by_cases hl : b0 = lockPrefix
    · subst hl
      rw [fetch_of_lockPrefix h0] at h
      cases h1 : readCode s (fetchAddress s + 1#64) <;>
        cases h2 : readCode s (fetchAddress s + 2#64) <;> simp [h1, h2, ite_eq_iff] at h
    · by_cases ho : b0 = opcodeByte0
      · subst ho
        rw [fetch_of_opcodeByte0 h0] at h
        cases h1 : readCode s (fetchAddress s + 1#64) with
        | none => simp [h1] at h
        | some b1 => simpa [h1] using h
      · simp [fetch_of_other_first h0 hl ho] at h

theorem step_of_fetch_ok {i : Instr} (h : fetch s = .ok i) : step s = exec i s := by
  simp [step, h]

theorem step_of_fetch_error {r : Refusal} (h : fetch s = .error r) : step s = .refused r := by
  simp [step, h]

end

/-! ### The invariant of the hardware's states -/

/-- SYSENTER writes neither pointer MSR nor the width. -/
@[simp] theorem enterLevel0_msrsCanonical (P Q : State → Level → Bool) (s : State) :
    msrsCanonical (enterLevel0 P Q s) = msrsCanonical s := by
  simp only [msrsCanonical, enterLevel0_config, enterLevel0_sysenterEsp, enterLevel0_sysenterEip]

/-- What SYSENTER leaves in IA32_PL3_SSP in IA-32e mode is canonical if what stood there was: it is the same
value, or one LA_adjust made (R78). -/
theorem enterLevel0_pl3Ssp_canonical (P Q : State → Level → Bool) {s : State} (hl : s.lma = true)
    (h : canonical s.config.linearWidth s.pl3Ssp = true) :
    canonical s.config.linearWidth (enterLevel0 P Q s).pl3Ssp = true := by
  cases hp : P (beforeCet s) s.cpl with
  | true => simp [hp, hl, canonical_laAdjust]
  | false => simp [hp, h]

/-- Parts C to I of R110 keep the invariant, whatever the two CET predicates are: they write CS with
D = NOT L and a canonical IA32_PL3_SSP, and nothing else it speaks of. -/
theorem enterLevel0_inv (P Q : State → Level → Bool) {s : State} (h : Inv s) : Inv (enterLevel0 P Q s) where
  configWf := by rw [enterLevel0_config]; exact h.configWf
  memoryWf := by rw [enterLevel0_memory]; exact h.memoryWf
  msrs := by rw [enterLevel0_msrsCanonical]; exact h.msrs
  lmaPe := by rw [enterLevel0_lma, enterLevel0_cr0]; exact h.lmaPe
  longCode := by rw [enterLevel0_cs]; simp
  pl3Ssp := by
    rw [enterLevel0_lma, enterLevel0_config]
    exact fun hl => enterLevel0_pl3Ssp_canonical P Q hl (h.pl3Ssp hl)

end Sys2Proof.Machine

namespace Sys2Proof.Proofs

open Sys2Proof.Machine Sys2Proof.Safety

/-- Settles O27: a step that completes is parts C to I of R110, which keep the invariant. -/
theorem stepKeepsHardwareState : Obligations.StepKeepsHardwareState := by
  intro s t hinv hstep
  obtain ⟨-, -, rfl⟩ := step_next hstep
  exact enterLevel0_inv _ _ hinv

/-- Settles O5, by the bytes that stand at the fetch address. -/
theorem stepFetchesAndRuns : Obligations.StepFetchesAndRuns := by
  intro s ip la
  have hla : la = fetchAddress s := rfl
  clear_value la
  subst hla
  cases h0 : readCode s (fetchAddress s) with
  | none => exact step_of_fetch_error (fetch_of_unread h0)
  | some b0 =>
    by_cases hl : b0 = lockPrefix
    · subst hl
      rw [step, fetch_of_lockPrefix h0]
      cases h1 : readCode s (fetchAddress s + 1#64) with
      | none => rfl
      | some b1 =>
        cases h2 : readCode s (fetchAddress s + 2#64) with
        | none => rfl
        | some b2 =>
          change _ = if b1 = opcodeByte0 ∧ b2 = opcodeByte1 then _ else _
          by_cases e : b1 = opcodeByte0 ∧ b2 = opcodeByte1 <;> simp [e]
    · by_cases ho : b0 = opcodeByte0
      · subst ho
        rw [step, fetch_of_opcodeByte0 h0]
        cases h1 : readCode s (fetchAddress s + 1#64) with
        | none => rfl
        | some b1 =>
          change _ = if b1 = opcodeByte1 then _ else _
          by_cases e : b1 = opcodeByte1 <;> simp [e]
      · rw [step_of_fetch_error (fetch_of_other_first h0 hl ho)]
        exact ((if_neg hl).trans (if_neg ho)).symm

/-- Settles O7: a step that completes fetched SYSENTER, whose two bytes therefore stand there. -/
theorem stepCompletesOnlyAtSysenter : Obligations.StepCompletesOnlyAtSysenter := by
  intro s t hstep
  obtain ⟨hf, hruns, -⟩ := step_next hstep
  obtain ⟨h0, h1⟩ := readCode_of_fetch_sysenter hf
  exact ⟨hruns, step_of_fetch_ok hf ▸ hstep, h0, h1⟩

/-- Settles O4: the fetch answers the decoded instruction, and the step performs what the fetch answers. -/
theorem stepRunsDecodedInstruction : Obligations.StepRunsDecodedInstruction :=
  fun _ _ _ _ hb hd _ => step_of_fetch_ok (fetch_of_decode hb hd)

/-- Settles O28, field by field: every value is a literal. -/
theorem resetIsHardwareState : Obligations.ResetIsHardwareState where
  configWf := by decide
  memoryWf := by decide
  msrs := by decide
  lmaPe := by decide
  longCode := by decide
  pl3Ssp := by decide

end Sys2Proof.Proofs
end

section
/-! PROOFS of the family 10_state: what decides the mode, when the CET registers stay, what no step writes, and
the statements settled from them (O8, O9, O12, O22, O23, O29, O31, O33, O34). -/

namespace Sys2Proof.Machine

open Sys2Proof.Safety

/-- The five modes of R42, each under its own condition (log 24). -/
theorem State.mode_cases (s : State) :
    (s.cr0.pe = false ∧ s.mode = .realAddress) ∨
    (s.cr0.pe = true ∧ s.lma = true ∧ s.cs.l = true ∧ s.mode = .mode64) ∨
    (s.cr0.pe = true ∧ s.lma = true ∧ s.cs.l = false ∧ s.mode = .compatibility) ∨
    (s.cr0.pe = true ∧ s.lma = false ∧ s.rflags.vm = true ∧ s.mode = .virtual8086) ∨
    (s.cr0.pe = true ∧ s.lma = false ∧ s.rflags.vm = false ∧ s.mode = .protectedMode) := by
  cases hpe : s.cr0.pe with
  | false => simp [State.mode, hpe]
  | true =>
    cases hl : s.lma with
    | true => cases hc : s.cs.l <;> simp [State.mode, hpe, hl, hc]
    | false => cases hv : s.rflags.vm <;> simp [State.mode, hpe, hl, hv]

theorem State.inIa32e_iff (s : State) : s.inIa32e = true ↔ s.cr0.pe = true ∧ s.lma = true := by
  simp [State.inIa32e]

theorem State.lma_of_intel64 (s : State) (h : s.config.intel64 = true) : s.lma = s.efer.lma := by
  simp [State.lma, h]

theorem State.lma_of_noIntel64 (s : State) (h : s.config.intel64 = false) : s.lma = false := by
  simp [State.lma, h]

/-! ### Control-flow enforcement on a processor without it (R6, D13) -/

theorem shadowStackEnabled_of_noCet {here : State} (h : here.config.cetPresent = false) (level : Level) :
    shadowStackEnabled here level = false := by
  simp [shadowStackEnabled, h]

theorem endbranchEnabled_of_noCet {here : State} (h : here.config.cetPresent = false) (level : Level) :
    endbranchEnabled here level = false := by
  simp [endbranchEnabled, h]

/-- Without CET, SYSENTER leaves the CET registers as they were. -/
theorem enterLevel0_sameCet_of_noCet {s : State} (h : s.config.cetPresent = false) :
    SameCet (enterLevel0 shadowStackEnabled endbranchEnabled s) s where
  pl3Ssp := by
    have hF := shadowStackEnabled_of_noCet (here := beforeCet s) h s.cpl
    simp [hF]
  ssp := by
    have hH := shadowStackEnabled_of_noCet (here := atLevel0 shadowStackEnabled s) h 0#2
    simp [hH]
  sCet := by
    have hT := endbranchEnabled_of_noCet (here := beforeTracker shadowStackEnabled s) h 0#2
    simp [hT]

/-- Without CET, two callers with the same CET registers land with the same. -/
theorem enterLevel0_sameCet {s s' : State} (hc : s'.config = s.config) (h : s.config.cetPresent = false)
    (hs : SameCet s s') :
    SameCet (enterLevel0 shadowStackEnabled endbranchEnabled s)
      (enterLevel0 shadowStackEnabled endbranchEnabled s') :=
  have ht := enterLevel0_sameCet_of_noCet h
  have ht' := enterLevel0_sameCet_of_noCet (s := s') (hc ▸ h)
  { pl3Ssp := ht.pl3Ssp.trans (hs.pl3Ssp.trans ht'.pl3Ssp.symm)
    ssp := ht.ssp.trans (hs.ssp.trans ht'.ssp.symm)
    sCet := ht.sCet.trans (hs.sCet.trans ht'.sCet.symm) }

/-- The refusal of D20 looks at VM only on a processor with CET. -/
theorem v86WithCet_setFlags {s : State} {flags : RFlags}
    (h : s.config.cetPresent = true → flags.vm = s.rflags.vm) :
    v86WithCet { s with rflags := flags } = v86WithCet s := by
  cases hc : s.config.cetPresent with
  | false => simp [v86WithCet, hc]
  | true => simp [v86WithCet, h hc]

/-! ### What no step writes (R30, R70, R74, R124) -/

/-- The three MSRs, CR0, IA32_EFER, the flags but VM and IF, EDX, the unnamed registers, memory and the
configuration. -/
def unwritten (s : State) :
    Word × Word × Word × Cr0 × Efer × Nat × Half × List (String × Nat) × Memory × Config :=
  (s.sysenterCs, s.sysenterEsp, s.sysenterEip, s.cr0, s.efer, s.rflags.other, s.edx, s.otherRegisters,
    s.memory, s.config)

@[simp] theorem enterLevel0_unwritten (P Q : State → Level → Bool) (s : State) :
    unwritten (enterLevel0 P Q s) = unwritten s := by
  simp [unwritten]

theorem step_keeps_unwritten {s t : State} (h : step s = .next t) : unwritten t = unwritten s := by
  obtain ⟨-, -, rfl⟩ := step_next h
  exact enterLevel0_unwritten _ _ s

theorem run_keeps_unwritten {k : Nat} {s t : State} (h : Sys2Proof.core.run k s = .next t) :
    unwritten t = unwritten s :=
  run_keeps (p := fun u => unwritten u = unwritten s)
    (fun _ _ hu hstep => (step_keeps_unwritten hstep).trans hu) k s t rfl h

/-! ### LA_adjust (R41) -/

theorem canonical_iff (n : Nat) (v : Word) : canonical n v = true ↔ laAdjust n v = v := by
  simp [canonical]

theorem laAdjust_getLsbD_low {n i : Nat} (hn : n ≤ 64) (v : Word) (hi : i < n) :
    (laAdjust n v).getLsbD i = v.getLsbD i := by
  rw [laAdjust_getLsbD hn v i (by omega), if_pos hi]

theorem laAdjust_getLsbD_high {n i : Nat} (h1 : 1 ≤ n) (hn : n ≤ 64) (v : Word) (hni : n ≤ i) (hi : i < 64) :
    (laAdjust n v).getLsbD i = v.getLsbD (n - 1) := by
  rw [laAdjust_getLsbD hn v i hi, if_neg (by omega), decide_eq_true (by omega), Bool.true_and]

end Sys2Proof.Machine

namespace Sys2Proof.Proofs

open Sys2Proof.Machine Sys2Proof.Safety

/-- Settles O8: the next state is parts C to I of R110, whose pointers are the whole MSRs where LMA is 1. -/
theorem sysenterRunsInIa32eMode : Obligations.SysenterRunsInIa32eMode := by
  intro s hruns hl
  refine ⟨_, execSysenter_of_runs hruns, ?rip, ?rsp, rfl, rfl, rfl, ?cs, rfl⟩
  case rip => simp [hl]
  case rsp => simp [hl]
  case cs => rw [enterLevel0_cs, hl]; rfl

/-- Settles O9: as O8, but the pointers are the MSRs' low halves under two free values (log 6). -/
theorem sysenterRunsOutsideIa32eMode : Obligations.SysenterRunsOutsideIa32eMode := by
  intro s hruns hl
  refine ⟨_, execSysenter_of_runs hruns, ?rip, ?rsp, rfl, rfl, rfl, ?cs, rfl⟩
  case rip => simp [hl]
  case rsp => simp [hl]
  case cs => rw [enterLevel0_cs, hl]; rfl

/-- Settles O12: part C of R110 writes the two flags, and nothing but D20's refusal reads any. -/
theorem flagsAffected : Obligations.FlagsAffected := by
  refine ⟨fun s t h => ?_, fun s flags => ?_⟩
  · obtain ⟨-, rfl⟩ := execSysenter_next h
    simp
  · obtain ⟨hfault, hother⟩ :=
      execSysenter_sameOutcome (s := s) (s' := { s with rflags := flags }) rfl rfl rfl rfl rfl
    refine ⟨hfault, fun hvm => hother (v86WithCet_setFlags hvm), fun t u ht hu => ?_⟩
    obtain ⟨-, rfl⟩ := execSysenter_next ht
    obtain ⟨-, rfl⟩ := execSysenter_next hu
    exact ⟨enterLevel0_sameLanding (s := s) (s' := { s with rflags := flags }) rfl rfl rfl rfl rfl _ _,
      fun hcet => enterLevel0_sameCet (s := s) (s' := { s with rflags := flags }) rfl hcet ⟨rfl, rfl, rfl⟩⟩

/-- Settles O22: parts F and H of R110 write the two registers, each under its own predicate. -/
theorem shadowStackSaveAndReset : Obligations.ShadowStackSaveAndReset := by
  intro s t h
  obtain ⟨-, rfl⟩ := execSysenter_next h
  exact ⟨enterLevel0_pl3Ssp _ _ s, enterLevel0_ssp _ _ s⟩

/-- Settles O23, by whether ENDBRANCH tracking is enabled at level 0. -/
theorem trackerArmed : Obligations.TrackerArmed := by
  intro s t h
  obtain ⟨-, rfl⟩ := execSysenter_next h
  cases hT : endbranchEnabled (beforeTracker shadowStackEnabled s) 0#2 <;> simp [hT]

/-- Settles O29: a step writes none of it, so a run does not. -/
theorem runKeepsProcessorState : Obligations.RunKeepsProcessorState := by
  intro k s t h
  simpa only [unwritten, Prod.mk.injEq] using run_keeps_unwritten h

/-- Settles O31, by the bits below and from N on. -/
theorem laAdjustSignExtends : Obligations.LaAdjustSignExtends :=
  ⟨fun n v h1 hn =>
    ⟨fun _ hi => laAdjust_getLsbD_low hn v hi, fun _ hni hi => laAdjust_getLsbD_high h1 hn v hni hi,
      canonical_iff n v, canonical_laAdjust n v⟩,
    laAdjust_wide (Nat.le_refl 64)⟩

/-- Settles O33: the five conditions exclude each other and one of them holds. -/
theorem modeOfState : Obligations.ModeOfState := by
  intro s
  have hmodes := s.mode_cases
  refine ⟨?_, ?_, ?_, ?_, ?_, s.inIa32e_iff, s.lma_of_intel64, s.lma_of_noIntel64⟩
  all_goals
    rcases hmodes with ⟨hpe, hm⟩ | ⟨hpe, hl, hc, hm⟩ | ⟨hpe, hl, hc, hm⟩ | ⟨hpe, hl, hv, hm⟩ |
      ⟨hpe, hl, hv, hm⟩ <;> simp [*]

/-- Settles O34: the three numbers are tested in turn, and no other is listed (log 32). -/
theorem sysenterMsrNumbers : Obligations.SysenterMsrNumbers := by
  intro s
  refine ⟨rfl, rfl, rfl, fun address hcs hesp heip => ?_⟩
  simp [sysenterMsr, hcs, hesp, heip]

end Sys2Proof.Proofs
end

section
/-! PROOFS of the family 20_memory: what a loaded table row gives the next fetch, the low bits of SS.Selector,
the refusal of a selector too big, and the statements settled from them (O6, O10, O11). -/

namespace Sys2Proof.Machine

open Sys2Proof.Safety

/-! ### The load of a table row (logs 30, 37) -/

theorem tableBytes_sysenter : tableBytes 16 0x0F34 = [opcodeByte0, opcodeByte1, 0#8] := by decide

theorem tableBytes_lockSysenter : tableBytes 24 0xF00F34 = [lockPrefix, opcodeByte0, opcodeByte1] := by decide

/-- The three bytes of a loaded row are what the next fetch reads: the load moves the fetch address nowhere. -/
theorem readCode_withFetchWord {nbits w : Nat} {a b c : Byte} (h : tableBytes nbits w = [a, b, c]) (s : State) :
    readCode (s.withFetchWord nbits w) (fetchAddress (s.withFetchWord nbits w)) = some a ∧
    readCode (s.withFetchWord nbits w) (fetchAddress (s.withFetchWord nbits w) + 1#64) = some b ∧
    readCode (s.withFetchWord nbits w) (fetchAddress (s.withFetchWord nbits w) + 2#64) = some c := by
  rw [State.withFetchWord, h, placeCode_fetchAddress, ← linear_add_one_add_one]
  exact readCode_placed_three s (fetchAddress s) a b c

theorem fetch_withFetchWord_sysenter (s : State) : fetch (s.withFetchWord 16 0x0F34) = .ok .sysenter := by
  obtain ⟨h0, h1, -⟩ := readCode_withFetchWord tableBytes_sysenter s
  simp [fetch_of_opcodeByte0 h0, h1]

theorem fetch_withFetchWord_lockSysenter (s : State) :
    fetch (s.withFetchWord 24 0xF00F34) = .ok .lockSysenter := by
  obtain ⟨h0, h1, h2⟩ := readCode_withFetchWord tableBytes_lockSysenter s
  simp [fetch_of_lockPrefix h0, h1, h2]

/-! ### The selectors (R77, R126) -/

/-- Adding 8 leaves bits 2:0, whether or not the sum fits. -/
theorem stackSelector_lowBits (sel : Selector) :
    (stackSelector sel).extractLsb' 0 3 = sel.extractLsb' 0 3 := by
  apply BitVec.eq_of_toNat_eq
  simp only [stackSelector, BitVec.extractLsb'_toNat, BitVec.toNat_add, BitVec.toNat_ofNat, Nat.shiftRight_zero]
  omega

/-- From FFF8H on, what neither part A refuses nor part B faults, part A' refuses (D6; log 7). -/
theorem execSysenter_of_bigSelector {s : State} (ha : Admitted s) (hpe : s.cr0.pe = true)
    (hbig : 0xFFF8 ≤ (s.sysenterCs.setWidth 16).toNat) : execSysenter s = .refused .selectorOverflow := by
  obtain ⟨hsupported, hmsrs⟩ := ha
  have hnull : nullSelector s.sysenterCs = false := nullSelector_of_big hbig
  have hfits : selectorFits (codeSelector s.sysenterCs) = false := by
    rw [← Bool.not_eq_true, selectorFits_codeSelector]
    omega
  simp [execSysenter, hsupported, hmsrs, hpe, hnull, hfits]

end Sys2Proof.Machine

namespace Sys2Proof.Proofs

open Sys2Proof.Machine Sys2Proof.Safety

/-- Settles O6: the fetch answers the loaded row's instruction, and the step performs what the fetch answers. -/
theorem loadedInstructionRuns : Obligations.LoadedInstructionRuns := fun s =>
  ⟨step_of_fetch_ok (fetch_withFetchWord_sysenter s), step_of_fetch_ok (fetch_withFetchWord_lockSysenter s)⟩

/-- Settles O10: where SYSENTER runs the sum fits, so 8 is added to the masked selector as a number. -/
theorem selectorArithmetic : Obligations.SelectorArithmetic := by
  refine ⟨fun s hruns => ?_, fun s => execSysenter_of_bigSelector⟩
  have ⟨_, _, _, hfits, _⟩ := hruns
  exact ⟨_, execSysenter_of_runs hruns, codeSelector_rpl _, codeSelector_index _,
    stackSelector_toNat hfits, stackSelector_lowBits _⟩

/-- Settles O11: parts E and I of R110 write both descriptor caches from constants, but for L and D. -/
theorem flatLevel0Segments : Obligations.FlatLevel0Segments := by
  intro s t h
  obtain ⟨-, rfl⟩ := execSysenter_next h
  constructor
  · simp [codeSelector_rpl]
  · simp

end Sys2Proof.Proofs
end

section
/-! PROOFS of the family 30_encoding: the decoder part by part on any list of bytes, and the statements settled
from it (O1, O2, O3). -/

namespace Sys2Proof

/-! ### The bytes of the two encodings (R90, R93) -/

theorem encode_sysenter : encode .sysenter = [opcodeByte0, opcodeByte1] := rfl

theorem encode_lockSysenter : encode .lockSysenter = [lockPrefix, opcodeByte0, opcodeByte1] := rfl

theorem lockPrefix_ne_opcodeByte0 : lockPrefix ≠ opcodeByte0 := by decide

theorem encode_ne_nil (i : Instr) : encode i ≠ [] := by
  cases i with
  | sysenter => simp [encode_sysenter]
  | lockSysenter => simp [encode_lockSysenter]

/-- Every encoding begins with one of the two bytes the decoder tells apart. -/
theorem encode_first {i : Instr} {b : Byte} {bs rest : List Byte} (h : b :: bs = encode i ++ rest) :
    b = lockPrefix ∨ b = opcodeByte0 := by
  cases i with
  | sysenter => exact .inr (List.cons.inj h).1
  | lockSysenter => exact .inl (List.cons.inj h).1

/-! ### The decoder by the first byte, whatever follows (R97) -/

theorem decode_lockPrefix_cons (bs : List Byte) : decode (lockPrefix :: bs) = decodeAfterLock bs := by
  simp [decode]

theorem decode_opcodeByte0_cons (bs : List Byte) :
    decode (opcodeByte0 :: bs) = decodeSecondByte .sysenter bs := by
  simp [decode, lockPrefix_ne_opcodeByte0.symm]

theorem decodeSecondByte_cons (i : Instr) (b : Byte) (bs : List Byte) :
    decodeSecondByte i (b :: bs) = if b = opcodeByte1 then .ok (i, bs) else .error .notShown := rfl

theorem decodeAfterLock_cons (b : Byte) (bs : List Byte) :
    decodeAfterLock (b :: bs) =
      if b = opcodeByte0 then decodeSecondByte .lockSysenter bs else .error .notShown := rfl

theorem decodeAfterLock_cons_cons (b1 b2 : Byte) (bs : List Byte) :
    decodeAfterLock (b1 :: b2 :: bs) =
      if b1 = opcodeByte0 ∧ b2 = opcodeByte1 then .ok (.lockSysenter, bs) else .error .notShown := by
  rw [decodeAfterLock_cons, decodeSecondByte_cons, ite_and]

/-! ### What each part of the decoder accepts -/

theorem decodeSecondByte_eq_ok_iff (i j : Instr) (bs rest : List Byte) :
    decodeSecondByte i bs = .ok (j, rest) ↔ i = j ∧ bs = opcodeByte1 :: rest := by
  cases bs with
  | nil => simp [decodeSecondByte]
  | cons b bs => by_cases h : b = opcodeByte1 <;> simp [decodeSecondByte_cons, h]

theorem decodeAfterLock_eq_ok_iff (i : Instr) (bs rest : List Byte) :
    decodeAfterLock bs = .ok (i, rest) ↔ .lockSysenter = i ∧ bs = opcodeByte0 :: opcodeByte1 :: rest := by
  cases bs with
  | nil => simp [decodeAfterLock]
  | cons b bs =>
    by_cases h : b = opcodeByte0 <;> simp [decodeAfterLock_cons, decodeSecondByte_eq_ok_iff, h]

/-- After the LOCK byte the decoder accepts the rest of LOCK SYSENTER's encoding, the only one that begins so. -/
theorem decode_lockPrefix_eq_ok_iff (i : Instr) (bs rest : List Byte) :
    decode (lockPrefix :: bs) = .ok (i, rest) ↔ lockPrefix :: bs = encode i ++ rest := by
  rw [decode_lockPrefix_cons, decodeAfterLock_eq_ok_iff]
  cases i with
  | sysenter => simp [encode_sysenter, lockPrefix_ne_opcodeByte0]
  | lockSysenter => simp [encode_lockSysenter]

/-- After `0F` the decoder accepts the rest of SYSENTER's encoding, the only one that begins so. -/
theorem decode_opcodeByte0_eq_ok_iff (i : Instr) (bs rest : List Byte) :
    decode (opcodeByte0 :: bs) = .ok (i, rest) ↔ opcodeByte0 :: bs = encode i ++ rest := by
  rw [decode_opcodeByte0_cons, decodeSecondByte_eq_ok_iff]
  cases i with
  | sysenter => simp [encode_sysenter]
  | lockSysenter => simp [encode_lockSysenter, lockPrefix_ne_opcodeByte0.symm]

theorem decode_eq_ok_iff (bs : List Byte) (i : Instr) (rest : List Byte) :
    decode bs = .ok (i, rest) ↔ bs = encode i ++ rest := by
  cases bs with
  | nil => simp [decode, encode_ne_nil]
  | cons b bs =>
    by_cases hl : b = lockPrefix
    · exact hl ▸ decode_lockPrefix_eq_ok_iff i bs rest
    · by_cases ho : b = opcodeByte0
      · exact ho ▸ decode_opcodeByte0_eq_ok_iff i bs rest
      · rw [decode_of_other_first hl ho]
        exact iff_of_false nofun fun h => (encode_first h).elim hl ho

theorem decode_encode_append (i : Instr) (rest : List Byte) : decode (encode i ++ rest) = .ok (i, rest) :=
  (decode_eq_ok_iff _ i rest).mpr rfl

/-! ### The verdicts on three bytes (R97) -/

theorem decode_three_bytes (b0 b1 b2 : Byte) (rest : List Byte) :
    decode (b0 :: b1 :: b2 :: rest) =
      if b0 = opcodeByte0 ∧ b1 = opcodeByte1 then .ok (.sysenter, b2 :: rest)
      else if b0 = lockPrefix ∧ b1 = opcodeByte0 ∧ b2 = opcodeByte1 then .ok (.lockSysenter, rest)
      else .error .notShown := by
  by_cases hl : b0 = lockPrefix
  · simp [hl, decode_lockPrefix_cons, decodeAfterLock_cons_cons, lockPrefix_ne_opcodeByte0]
  · by_cases ho : b0 = opcodeByte0
    · simp [ho, decode_opcodeByte0_cons, decodeSecondByte_cons, lockPrefix_ne_opcodeByte0.symm]
    · simp [decode_of_other_first hl ho, hl, ho]

theorem fetchLength_le_three (b0 : Byte) : fetchLength b0 ≤ 3 := by
  unfold fetchLength
  split_ifs <;> decide

/-! ### The words of the opcode table (log 37) -/

theorem decodeTableWord_of_encode {nbits w : Nat} {i : Instr} {rest : List Byte}
    (h : tableBytes nbits w = encode i ++ rest) : decodeTableWord nbits w = some i := by
  rw [decodeTableWord, h, decode_encode_append]

end Sys2Proof

namespace Sys2Proof.Proofs

open Sys2Proof.Machine

/-- Settles O1: the decoder branches on the first byte, and each branch accepts one encoding. -/
theorem decodeEncodeAgree : Obligations.DecodeEncodeAgree := decode_eq_ok_iff

/-- Settles O2: the verdicts by the first byte, and the bytes the fetch asks for. -/
theorem decoderVerdicts : Obligations.DecoderVerdicts := ⟨decode_three_bytes, fetchLength_le_three⟩

/-- Settles O3: the two encodings decode back, and each other sequence meets a byte that is not shown. -/
theorem encodingWordsDecode : Obligations.EncodingWordsDecode := by
  refine ⟨decode_encode_append .sysenter [], decode_encode_append .lockSysenter [], ?sysexit, ?twoPrefixes,
    ?otherPrefix, ?swapped, ?nop, ?rowSysenter, ?rowLockSysenter⟩
  case sysexit => exact (decode_three_bytes ..).trans (by decide)
  case twoPrefixes => exact (decode_three_bytes ..).trans (by decide)
  case otherPrefix => exact decode_of_other_first (by decide) (by decide) _
  case swapped => exact decode_of_other_first (by decide) (by decide) _
  case nop => exact decode_of_other_first (by decide) (by decide) _
  case rowSysenter => exact decodeTableWord_of_encode tableBytes_sysenter
  case rowLockSysenter => exact decodeTableWord_of_encode (rest := []) tableBytes_lockSysenter

end Sys2Proof.Proofs
end

section
/-! PROOFS of the family 40_sysenter: the mode SYSENTER lands in, when each refusal and the fault come, what
the outcome depends on, the fixed point without CET, and the statements settled from them (O13, O14, O15, O20,
O21, O24, O25, O26, O36). -/

namespace Sys2Proof.Machine

open Sys2Proof.Safety

/-! ### The conditions of R110, as the statements spell them -/

theorem msrsCanonical_eq_false_iff (s : State) :
    msrsCanonical s = false ↔
      ¬ (canonical s.config.linearWidth s.sysenterEsp = true ∧
        canonical s.config.linearWidth s.sysenterEip = true) := by
  rw [← Bool.not_eq_true, msrsCanonical, Bool.and_eq_true]

theorem nullSelector_eq_false_iff (cs : Word) : nullSelector cs = false ↔ cs.extractLsb' 2 14 ≠ 0#14 := by
  simp [nullSelector]

theorem selectorFits_eq_false_iff (cs : Word) :
    selectorFits (codeSelector cs) = false ↔ 0xFFF8 ≤ (cs.setWidth 16).toNat := by
  rw [← Bool.not_eq_true, selectorFits_codeSelector, Nat.not_lt]

theorem v86WithCet_iff (s : State) :
    v86WithCet s = true ↔ s.rflags.vm = true ∧ s.config.cetPresent = true := by
  rw [v86WithCet, Bool.and_eq_true]

/-- A null selector is one whose sum fits: it is never the overflow of part A'. -/
theorem selectorFits_of_null {cs : Word} (h : nullSelector cs = true) : selectorFits (codeSelector cs) = true := by
  rw [selectorFits_codeSelector]
  by_contra hbig
  simp [nullSelector_of_big (Nat.not_lt.mp hbig)] at h

/-! ### The outcome (R110 parts A, B and A', R127) -/

/-- Both causes of part B, where part A admits the step (R161). -/
theorem execSysenter_of_fault {s : State} (ha : Admitted s)
    (h : s.cr0.pe = false ∨ nullSelector s.sysenterCs = true) :
    execSysenter s = .fault (.generalProtection 0) := by
  obtain ⟨hsupported, hmsrs⟩ := ha
  rw [execSysenter, if_neg (by simp [hsupported]), if_neg (by simp [hmsrs]), if_pos h, raise]

theorem execLockSysenter_of_supported {s : State} (h : sysenterSupported s.config = true) :
    execLockSysenter s = .fault .invalidOpcode := by
  simp [execLockSysenter, h, raise]

/-- The four refusals, each exactly under its condition (R127). -/
theorem execSysenter_eq_refused_iff (s : State) (r : Refusal) :
    execSysenter s = .refused r ↔
      (r = .unsupported ∧ sysenterSupported s.config = false) ∨
      (r = .noncanonicalMsr ∧ sysenterSupported s.config = true ∧ msrsCanonical s = false) ∨
      (r = .selectorOverflow ∧ Admitted s ∧ s.cr0.pe = true ∧
        selectorFits (codeSelector s.sysenterCs) = false) ∨
      (r = .v86Cet ∧ Admitted s ∧ s.cr0.pe = true ∧ nullSelector s.sysenterCs = false ∧
        selectorFits (codeSelector s.sysenterCs) = true ∧ v86WithCet s = true) := by
  rcases execSysenter_cases s with ⟨⟨⟨hsup, hmsrs⟩, hpe, hnull, hfits, hv⟩, e⟩ | ⟨⟨hsup, hmsrs⟩, hpe | hnull, e⟩ |
    ⟨hsup, e⟩ | ⟨hsup, hmsrs, e⟩ | ⟨⟨hsup, hmsrs⟩, hpe, hnull, hfits, e⟩ |
    ⟨⟨hsup, hmsrs⟩, hpe, hnull, hfits, hv, e⟩
  · simp [e, hsup, hmsrs, hfits, hv]
  · simp [e, hsup, hmsrs, hpe]
  · simp [e, hsup, hmsrs, hnull, selectorFits_of_null hnull]
  all_goals
    -- a refusal's condition excludes those of the other three
    rw [e, Host.Outcome.refused.injEq, @eq_comm _ _ r]
    simp [Admitted, *]

/-- Whether SYSENTER runs is a function of the processor, CR0 and the three MSRs, but for D20's refusal. -/
theorem runs_of_sameInputs {s s' : State} (hc : s'.config = s.config) (hcr0 : s'.cr0 = s.cr0)
    (hcs : s'.sysenterCs = s.sysenterCs) (hesp : s'.sysenterEsp = s.sysenterEsp)
    (heip : s'.sysenterEip = s.sysenterEip) (hv : v86WithCet s' = false) (h : Runs s) : Runs s' := by
  obtain ⟨⟨hsupported, hmsrs⟩, hpe, hnull, hfits, -⟩ := h
  have hmsrs' : msrsCanonical s' = true := by rw [← hmsrs, msrsCanonical, msrsCanonical, hc, hesp, heip]
  exact ⟨⟨hc ▸ hsupported, hmsrs'⟩, hcr0 ▸ hpe, hcs ▸ hnull, hcs ▸ hfits, hv⟩

/-! ### The landing -/

/-- R114: parts C and E leave a mode that LMA alone decides, once PE is 1. -/
theorem enterLevel0_mode (P Q : State → Level → Bool) {s : State} (hpe : s.cr0.pe = true) :
    (enterLevel0 P Q s).mode = if s.lma = true then .mode64 else .protectedMode := by
  cases hl : s.lma <;> simp [State.mode, hpe, hl]

/-- Without CET parts F and H do nothing, and SYSENTER is parts C, D, E, G and I. -/
theorem enterLevel0_of_noCet {s : State} (h : s.config.cetPresent = false) :
    enterLevel0 shadowStackEnabled endbranchEnabled s =
      loadStackSegment (codeSelector s.sysenterCs) (setLevel0 (beforeCet s)) := by
  have hF := shadowStackEnabled_of_noCet (here := beforeCet s) h s.cpl
  have hH := shadowStackEnabled_of_noCet (here := atLevel0 shadowStackEnabled s) h 0#2
  have hT := endbranchEnabled_of_noCet (here := beforeTracker shadowStackEnabled s) h 0#2
  rw [enterLevel0, hT, beforeTracker, hH, atLevel0, hF]
  rfl

/-- Without CET and in IA-32e mode, where nothing is drawn, parts C to I are done once for all (R125). -/
theorem enterLevel0_idem_of_noCet {s : State} (h : s.config.cetPresent = false) (hl : s.lma = true) :
    enterLevel0 shadowStackEnabled endbranchEnabled (enterLevel0 shadowStackEnabled endbranchEnabled s) =
      enterLevel0 shadowStackEnabled endbranchEnabled s := by
  have h' : (enterLevel0 shadowStackEnabled endbranchEnabled s).config.cetPresent = false := h
  rw [enterLevel0_of_noCet h', enterLevel0_of_noCet h, beforeCet, beforeCet]
  simp only [loadStackSegment_lma, setLevel0_lma, loadCodeSegment_lma, loadPointers_lma, clearFlags_lma, hl]
  rfl

end Sys2Proof.Machine

namespace Sys2Proof.Proofs

open Sys2Proof.Machine Sys2Proof.Safety

/-- Settles O13: what completes had PE = 1, so LMA decides the mode; the rest are the fields parts C, E and G
write. -/
theorem modeAfterSysenter : Obligations.ModeAfterSysenter := by
  intro s t h
  obtain ⟨⟨-, hpe, -⟩, rfl⟩ := execSysenter_next h
  refine ⟨enterLevel0_mode _ _ hpe, fun hl => ?_, fun hl => ?_, rfl, rfl, rfl, rfl⟩
  · simp [hl]
  · simp [hl]

/-- Settles O14: a compatibility-mode caller is in IA-32e mode, where the result is O8's. -/
theorem compatibilityCallerEnters64Bit : Obligations.CompatibilityCallerEnters64Bit := by
  intro s hruns hmode
  obtain ⟨-, -, hcompatibility, -⟩ := modeOfState s
  obtain ⟨hpe, hl, -⟩ := hcompatibility.mp hmode
  have hmode64 := enterLevel0_mode shadowStackEnabled endbranchEnabled hpe
  rw [if_pos hl] at hmode64
  refine ⟨_, execSysenter_of_runs hruns, hmode64, ?_⟩
  simp [hl]

/-- Settles O15: a virtual-8086 caller is outside IA-32e mode with VM = 1, which part C clears and which D20
refuses on a processor with CET. -/
theorem virtual8086CallerLeavesThatMode : Obligations.Virtual8086CallerLeavesThatMode := by
  refine ⟨fun s hruns hmode => ?_, fun s hadmitted hmode hcet hnull hsmall => ?_⟩
  all_goals
    obtain ⟨-, -, -, hvirtual, -⟩ := modeOfState s
    obtain ⟨hpe, hl, hvm⟩ := hvirtual.mp hmode
  · have hprotected := enterLevel0_mode shadowStackEnabled endbranchEnabled hpe
    rw [if_neg (by simp [hl])] at hprotected
    refine ⟨_, execSysenter_of_runs hruns, hprotected, ?_⟩
    simp [hl]
  · have hn := (nullSelector_eq_false_iff s.sysenterCs).mpr hnull
    have hfits := (selectorFits_codeSelector s.sysenterCs).mpr hsmall
    have hv := (v86WithCet_iff s).mpr ⟨hvm, hcet⟩
    exact (execSysenter_eq_refused_iff s _).mpr (.inr (.inr (.inr ⟨rfl, hadmitted, hpe, hn, hfits, hv⟩)))

/-- Settles O20: the four refusals, their conditions spelt out. -/
theorem sysenterRefusals : Obligations.SysenterRefusals := by
  intro s r
  have h := execSysenter_eq_refused_iff s r
  rwa [msrsCanonical_eq_false_iff, nullSelector_eq_false_iff, selectorFits_eq_false_iff,
    selectorFits_codeSelector, v86WithCet_iff] at h

/-- Settles O21: neither the outcome's conditions nor the landing, but for part F's predicate, look at CPL. -/
theorem noPrivilegeCheck : Obligations.NoPrivilegeCheck := by
  intro s level
  obtain ⟨hfault, hother⟩ :=
    execSysenter_sameOutcome (s := s) (s' := { s with cpl := level }) rfl rfl rfl rfl rfl
  obtain ⟨hnext, hrefused⟩ := hother rfl
  refine ⟨hnext, hfault, hrefused, fun t u ht hu => ?_⟩
  obtain ⟨-, rfl⟩ := execSysenter_next ht
  obtain ⟨-, rfl⟩ := execSysenter_next hu
  exact ⟨enterLevel0_sameLanding (s := s) (s' := { s with cpl := level }) rfl rfl rfl rfl rfl _ _,
    fun hcet => enterLevel0_sameCet (s := s) (s' := { s with cpl := level }) rfl hcet ⟨rfl, rfl, rfl⟩⟩

/-- Settles O24: no part writes the first ten, and each CET register stays where its predicate is false. -/
theorem sysenterFrame : Obligations.SysenterFrame := by
  intro s t h
  obtain ⟨-, rfl⟩ := execSysenter_next h
  refine ⟨rfl, rfl, rfl, rfl, rfl, rfl, rfl, rfl, rfl, fun _ => rfl, ?ssp, ?pl3Ssp, ?sCet, fun hcet => ?noCet⟩
  case ssp => intro hH; simp [hH]
  case pl3Ssp => intro hF; simp [hF]
  case sCet => intro hT; simp [hT]
  case noCet =>
    obtain ⟨hpl3Ssp, hssp, hsCet⟩ := enterLevel0_sameCet_of_noCet hcet
    exact ⟨hssp, hpl3Ssp, hsCet⟩

/-- Settles O26: all that decides whether SYSENTER runs and where it lands is shared, but for D20's refusal. -/
theorem callerStateIsLost : Obligations.CallerStateIsLost := by
  intro s s' hc hcr0 he hcs hesp heip hvm t h
  obtain ⟨hruns, rfl⟩ := execSysenter_next h
  have hv : v86WithCet s' = false := by
    cases hvm' : s'.rflags.vm with
    | false => simp [v86WithCet, hvm']
    | true => simp [v86WithCet, hvm hvm']
  exact ⟨_, execSysenter_of_runs (runs_of_sameInputs hc hcr0 hcs hesp heip hv hruns),
    enterLevel0_sameLanding hc he hcs hesp heip _ _⟩

/-- Settles O25: the landing state shares with its caller all that O26 asks for, and VM is 0 there. -/
theorem secondSysenterLandsThereAgain : Obligations.SecondSysenterLandsThereAgain := by
  intro s t h
  have hlost := callerStateIsLost s t
  obtain ⟨hruns, rfl⟩ := execSysenter_next h
  obtain ⟨u, hu, hsame⟩ := hlost rfl rfl rfl rfl rfl rfl (by simp) _ h
  refine ⟨⟨u, hu, hsame⟩, fun hcet hl => ?_⟩
  obtain ⟨-, rfl⟩ := execSysenter_next hu
  exact hu.trans (congrArg _ (enterLevel0_idem_of_noCet hcet hl))

/-- Settles O36: at reset memory is empty, PE is 0, and the load changes neither PE nor what part A asks. -/
theorem firstStepAfterReset : Obligations.FirstStepAfterReset := by
  obtain ⟨hsysenter, hlock⟩ := loadedInstructionRuns State.reset
  refine ⟨?empty, hsysenter.trans ?fault, hlock.trans ?lock⟩
  case empty => exact step_of_fetch_error (fetch_of_unread (by decide))
  case fault => exact execSysenter_of_fault (by decide) (.inl rfl)
  case lock => exact execLockSysenter_of_supported (by decide)

end Sys2Proof.Proofs
end

section
/-! PROOFS of the family 41_referenced_instructions: the support check by the SEP flag (O32). -/

namespace Sys2Proof.Machine

/-- A processor that reports no SEP does not support SYSENTER, whatever its signature (log 34). -/
theorem sysenterSupported_of_noSep {c : Config} (h : c.cpuidSep = false) : sysenterSupported c = false := by
  rw [sysenterSupported, h, Bool.false_and]

/-- Where SEP is set, only the signatures R146 excepts do not support SYSENTER. -/
theorem sysenterSupported_iff_of_sep {c : Config} (h : c.cpuidSep = true) :
    sysenterSupported c = true ↔ ¬ (c.family = 6 ∧ c.model < 3 ∧ c.stepping < 3) := by
  rw [sysenterSupported, h, Bool.true_and, Bool.not_eq_true', ← Bool.not_eq_true]
  simp only [Bool.and_eq_true, decide_eq_true_eq, and_assoc]

end Sys2Proof.Machine

namespace Sys2Proof.Proofs

open Sys2Proof.Machine

/-- Settles O32, by the SEP flag: the signature counts only where it is set. -/
theorem supportCheck : Obligations.SupportCheck := by
  intro c
  cases hsep : c.cpuidSep with
  | false => simp [sysenterSupported_of_noSep hsep]
  | true => simp only [sysenterSupported_iff_of_sep hsep, true_and]

end Sys2Proof.Proofs
end

section
/-! PROOFS of the family 60_exceptions: which faults the two forms raise and when, the last step of a run, and the
statements settled from them (O16, O17, O18, O30, O19). -/

namespace Sys2Proof.Machine

open Sys2Proof.Safety

/-! ### The faults (R160 to R162) -/

theorem nullSelector_iff (cs : Word) : nullSelector cs = true ↔ cs.extractLsb' 2 14 = 0#14 := by
  rw [nullSelector, decide_eq_true_iff]

/-- SYSENTER's one fault, exactly under the causes of part B, where part A admits the step (R161). -/
theorem execSysenter_eq_fault_iff (s : State) (f : Fault) :
    execSysenter s = .fault f ↔
      f = .generalProtection 0 ∧ Admitted s ∧ (s.cr0.pe = false ∨ nullSelector s.sysenterCs = true) := by
  refine ⟨fun h => ?_, fun ⟨hf, ha, hcause⟩ => hf ▸ execSysenter_of_fault ha hcause⟩
  rcases execSysenter_cases s with ⟨-, e⟩ | ⟨ha, hcause, e⟩ | ⟨-, e⟩ | ⟨-, -, e⟩ | ⟨-, -, -, -, e⟩ |
    ⟨-, -, -, -, -, e⟩
  case inr.inl => exact ⟨Host.Outcome.fault.inj (h.symm.trans e), ha, hcause⟩
  all_goals cases h.symm.trans e

theorem execLockSysenter_of_unsupported {s : State} (h : sysenterSupported s.config = false) :
    execLockSysenter s = .refused .unsupported := if_pos h

/-- LOCK SYSENTER's one fault, exactly where the processor has the instruction (R162). -/
theorem execLockSysenter_eq_fault_iff (s : State) (f : Fault) :
    execLockSysenter s = .fault f ↔ f = .invalidOpcode ∧ sysenterSupported s.config = true := by
  cases h : sysenterSupported s.config with
  | false => simp [execLockSysenter_of_unsupported h]
  | true => simp [execLockSysenter_of_supported h, eq_comm]

/-! ### The last step of a run, and where it lands -/

/-- A run that completes ends with a step that completes. -/
theorem run_succ_last {M : Host.Core} {k : Nat} {s t : M.State} (h : M.run (k + 1) s = .next t) :
    ∃ u, M.run k s = .next u ∧ M.step u = .next t := by
  induction k generalizing s with
  | zero =>
    obtain ⟨t', hstep, ht⟩ := run_succ_next h
    cases ht
    exact ⟨s, rfl, hstep⟩
  | succ k ih =>
    obtain ⟨s', hstep, hrun⟩ := run_succ_next h
    obtain ⟨u, hu, hlast⟩ := ih hrun
    exact ⟨u, by simp only [Host.Core.run, hstep, hu], hlast⟩

/-- EIP is bits 31:0 of its MSR in every mode (R21). -/
theorem enterLevel0_eip (P Q : State → Level → Bool) (s : State) :
    (enterLevel0 P Q s).rip.setWidth 32 = s.sysenterEip.setWidth 32 := by
  cases hl : s.lma <;> simp [hl]

/-- ESP is bits 31:0 of its MSR in every mode (R22). -/
theorem enterLevel0_esp (P Q : State → Level → Bool) (s : State) :
    (enterLevel0 P Q s).rsp.setWidth 32 = s.sysenterEsp.setWidth 32 := by
  cases hl : s.lma <;> simp [hl]

end Sys2Proof.Machine

namespace Sys2Proof.Proofs

open Sys2Proof.Machine Sys2Proof.Safety

/-- Settles O30: the last step of the run is a SYSENTER that ran, and the steps before it kept all that decides
where it lands. -/
theorem runLandsAtLevel0 : Obligations.RunLandsAtLevel0 := by
  intro k s t h
  obtain ⟨(u : State), hrun, hlast⟩ := run_succ_last h
  obtain ⟨hcs, hesp, heip, -, hefer, -, -, -, -, hconfig⟩ := runKeepsProcessorState k s u hrun
  have hl : s.lma = u.lma := by rw [State.lma, State.lma, hconfig, hefer]
  obtain ⟨-, ⟨-, hpe, -⟩, rfl⟩ := step_next hlast
  rw [hl, ← hcs, ← hesp, ← heip]
  refine ⟨rfl, rfl, rfl, enterLevel0_mode _ _ hpe, enterLevel0_eip _ _ u, enterLevel0_esp _ _ u,
    fun hia32e => ⟨?rip, ?rsp⟩, rfl, rfl, rfl⟩
  case rip => rw [enterLevel0_rip, if_pos hia32e]
  case rsp => rw [enterLevel0_rsp, if_pos hia32e]

/-- Settles O16: outside real-address mode PE is 1, and what neither faults nor is refused by part A' runs. -/
theorem outcomePerMode : Obligations.OutcomePerMode := by
  intro s ha
  obtain ⟨hreal, -⟩ := modeOfState s
  refine ⟨execLockSysenter_of_supported ha.1, fun hmode => ?real, fun _ hnull => ?null,
    fun hmode hnull => ?other, fun i f h => ?faults⟩
  case real => exact execSysenter_of_fault ha (.inl (hreal.mp hmode))
  case null => exact execSysenter_of_fault ha (.inr ((nullSelector_iff _).mpr hnull))
  case other =>
    have hpe : s.cr0.pe = true := by simpa [hreal] using hmode
    have hn := (nullSelector_eq_false_iff s.sysenterCs).mpr hnull
    split
    next hbig => exact execSysenter_of_bigSelector ha hpe hbig
    next hsmall =>
      have hfits := (selectorFits_codeSelector s.sysenterCs).mpr (Nat.not_le.mp hsmall)
      simp only [← v86WithCet_iff]
      split
      next hv =>
        exact (execSysenter_eq_refused_iff s _).mpr (.inr (.inr (.inr ⟨rfl, ha, hpe, hn, hfits, hv⟩)))
      next hv => exact ⟨_, execSysenter_of_runs ⟨ha, hpe, hn, hfits, eq_false_of_ne_true hv⟩⟩
  case faults =>
    cases i with
    | sysenter => exact .inl ((execSysenter_eq_fault_iff s f).mp h).1
    | lockSysenter => exact .inr ((execLockSysenter_eq_fault_iff s f).mp h).1

/-- Settles O17: part B's causes are the only source of a fault, and they give this one. -/
theorem generalProtectionCauses : Obligations.GeneralProtectionCauses := by
  refine fun s => ⟨fun ha => ?_, fun f h => ((execSysenter_eq_fault_iff s f).mp h).1⟩
  rw [← nullSelector_iff]
  refine ⟨fun h => ?_, execSysenter_of_fault ha⟩
  obtain ⟨-, -, hcause⟩ := (execSysenter_eq_fault_iff s _).mp h
  exact hcause

/-- Settles O18, by the form: each raises one fault, and #UD is the LOCK form's. -/
theorem invalidOpcodeOnlyFromLock : Obligations.InvalidOpcodeOnlyFromLock := by
  intro i s
  cases i with
  | sysenter => exact (execSysenter_eq_fault_iff s _).trans (by simp)
  | lockSysenter => exact (execLockSysenter_eq_fault_iff s _).trans (by simp)

/-- Settles O19, by whether the processor has the instruction. -/
theorem lockSysenterRaisesInvalidOpcode : Obligations.LockSysenterRaisesInvalidOpcode :=
  fun _ => ⟨execLockSysenter_of_supported, execLockSysenter_of_unsupported⟩

end Sys2Proof.Proofs
end

section
/-! PROOFS of the family other: the values of the state after reset (O35). -/

namespace Sys2Proof.Machine

/-- Outside 64-bit mode the fetch address is the base of CS plus EIP (R74). -/
theorem fetchAddress_of_ne_mode64 {s : State} (h : s.mode ≠ .mode64) :
    fetchAddress s = s.cs.base + (s.rip.setWidth 32).setWidth 64 := by
  rw [fetchAddress, instructionPointer, if_neg h]

end Sys2Proof.Machine

namespace Sys2Proof.Proofs

open Sys2Proof.Machine

/-- Settles O35: PE is 0, so the mode is real-address mode and the fetch address is the base of CS plus EIP; every
other value is a literal of the reset state. -/
theorem resetValues : Obligations.ResetValues := by
  obtain ⟨hreal, -⟩ := modeOfState State.reset
  have hmode : State.reset.mode = .realAddress := hreal.mpr rfl
  have hfetch : fetchAddress State.reset = 0xFFFFFFF0#64 :=
    calc fetchAddress State.reset
      _ = 0xFFFF0000#64 + ((0xFFF0#64 : Word).setWidth 32).setWidth 64 :=
        fetchAddress_of_ne_mode64 (by simp [hmode])
      _ = 0xFFFFFFF0#64 := by decide
  exact ⟨hmode, rfl, rfl, rfl, rfl, rfl, rfl, rfl, hfetch⟩

end Sys2Proof.Proofs
end
